-- ==== Sys2Proof/Word.lean ====
section
/-! DEFINITION. The word types of the core and the two plainest things done with them:
joining two 32-bit halves and taking them apart again (00_scope.md R6, R7). -/

namespace Sys2Proof

/-- A register of the window: 32 bits (10_state.md R20). -/
abbrev Word32 := BitVec 32

/-- A bit-field word, value or result: BF_BITS = 64 (00_scope.md R5). -/
abbrev Word64 := BitVec 64

/-- A pixel channel, DENOM or a frame dimension: CHAN_BITS = DIM_BITS = 16 (00_scope.md R5). -/
abbrev Half := BitVec 16

/-- A byte lane, and the W and L fields of a command (30_encoding.md R80). -/
abbrev Byte := BitVec 8

/-- A slot number 0..3, read as u_2 (30_encoding.md R81). -/
abbrev Slot := BitVec 2

/-- `{hi, lo}` of 00_scope.md R6: `hi` in the more significant bits. -/
abbrev join (hi lo : Word32) : Word64 := hi ++ lo

/-- Bits 31:0. -/
abbrev low32 (v : Word64) : Word32 := v.extractLsb' 0 32

/-- Bits 63:32. -/
abbrev high32 (v : Word64) : Word32 := v.extractLsb' 32 32

/-- `{hi, lo}` of two 16-bit fields. -/
abbrev join16 (hi lo : Half) : Word32 := hi ++ lo

/-- A flag as a register field one bit wide. -/
abbrev flagBit (b : Bool) : BitVec 1 := BitVec.ofBool b

end Sys2Proof
end

