-- ==== Sys2Proof/Syntax.lean ====
section
/-! DEFINITION. The commands: one constructor per row of spec/opcode_table.json, in the order of the
opcode map of 30_encoding.md R82. Operands have the widths of R81; every other operand of a command
is a fixed register. -/

namespace Sys2Proof

/-- The 21 commands of 30_encoding.md R82. -/
inductive Instr where
  /-- NOP, 45_block.md R208. -/
  | nop
  /-- CC_FWD on slot `s`, 41_colorspace.md R122. -/
  | ccFwd (s : Slot)
  /-- CC_INV on slot `s`, 41_colorspace.md R123. -/
  | ccInv (s : Slot)
  /-- CC_FWD4, 41_colorspace.md R124. -/
  | ccFwd4
  /-- CC_INV4, 41_colorspace.md R125. -/
  | ccInv4
  /-- DCT_FWD, 43_transform.md R164. -/
  | dctFwd
  /-- DCT_INV, 43_transform.md R165. -/
  | dctInv
  /-- CQ_FWD, 42_chroma_quant.md R143. -/
  | cqFwd
  /-- CQ_INV, 42_chroma_quant.md R144. -/
  | cqInv
  /-- PACK, 44_codeword.md R181. -/
  | pack
  /-- UNPACK, 44_codeword.md R182. -/
  | unpack
  /-- ENC_BLOCK, 45_block.md R206. -/
  | encBlock
  /-- DEC_BLOCK, 45_block.md R207. -/
  | decBlock
  /-- BF_FITSU of width `w`, 40_bitfield.md R104. -/
  | bfFitsU (w : Byte)
  /-- BF_FITSS of width `w`, 40_bitfield.md R105. -/
  | bfFitsS (w : Byte)
  /-- BF_GETU of width `w` at lsb `l`, 40_bitfield.md R106. -/
  | bfGetU (w l : Byte)
  /-- BF_GETS of width `w` at lsb `l`, 40_bitfield.md R107. -/
  | bfGetS (w l : Byte)
  /-- BF_SETU of width `w` at lsb `l`, 40_bitfield.md R108. -/
  | bfSetU (w l : Byte)
  /-- BF_SETS of width `w` at lsb `l`, 40_bitfield.md R109. -/
  | bfSetS (w l : Byte)
  /-- BLK_START, 45_block.md R204. -/
  | blkStart
  /-- BLK_NEXT, 45_block.md R205. -/
  | blkNext
deriving DecidableEq, Repr

end Sys2Proof
end

