-- ==== Sys2Proof/WellFormed.lean ====
section
/-! DEFINITION. When a command word is legal, read field by field (the second form of
30_encoding.md R83): its OPC is assigned, its RSV field is 0, and each of S, W, L that the opcode does
not use is 0. The decoder reads R83's first form (match and mask) and does not use this check; an
instruction is well formed when the fields of its word pass it (`Instr.WellFormed`, beside the
encoder in Decode.lean). -/

namespace Sys2Proof

/-- The five fields of the format CMD32 (30_encoding.md R80). -/
structure CmdFields where
  opc : Byte
  s : BitVec 2
  rsv : BitVec 6
  w : Byte
  l : Byte
deriving DecidableEq, Repr

/-- The fields of a 32-bit word, at the bits of 30_encoding.md R80. -/
def CmdFields.ofWord (v : Word32) : CmdFields where
  opc := v.extractLsb' 0 8
  s := v.extractLsb' 8 2
  rsv := v.extractLsb' 10 6
  w := v.extractLsb' 16 8
  l := v.extractLsb' 24 8

/-- Which of S, W, L an opcode uses (the column "fields used" of 30_encoding.md R82). -/
structure FieldsUsed where
  s : Bool
  w : Bool
  l : Bool
deriving DecidableEq, Repr

/-- The column "fields used" of 30_encoding.md R82; none for an unassigned opcode (R84). -/
def fieldsUsed (opc : Byte) : Option FieldsUsed :=
  if opc = 0x01 ∨ opc = 0x02 then some ⟨true, false, false⟩
  else if opc = 0x50 ∨ opc = 0x51 then some ⟨false, true, false⟩
  else if opc = 0x52 ∨ opc = 0x53 ∨ opc = 0x54 ∨ opc = 0x55 then some ⟨false, true, true⟩
  else if opc = 0x00 ∨ opc = 0x03 ∨ opc = 0x04 ∨ opc = 0x10 ∨ opc = 0x11 ∨ opc = 0x20 ∨ opc = 0x21
      ∨ opc = 0x30 ∨ opc = 0x31 ∨ opc = 0x40 ∨ opc = 0x41 ∨ opc = 0x60 ∨ opc = 0x61 then
    some ⟨false, false, false⟩
  else none

/-- The check of 30_encoding.md R83, field by field. -/
def CmdFields.legal (f : CmdFields) : Bool :=
  match fieldsUsed f.opc with
  | none => false
  | some u => f.rsv == 0 && (u.s || f.s == 0) && (u.w || f.w == 0) && (u.l || f.l == 0)

end Sys2Proof
end

