-- ==== Sys2Proof/Decode.lean ====
section
/-! DEFINITION. The decoder of 30_encoding.md R86 over the match and mask list of R82, total on every
32-bit word and rejecting by name, and after it the encoder of R80. -/

namespace Sys2Proof

/-- One row of the match and mask list of 30_encoding.md R82. -/
structure OpRow where
  matchBits : Word32
  mask : Word32
  build : Slot → Byte → Byte → Instr

/-- `cmd & mask == match` (30_encoding.md R86). -/
def OpRow.hits (r : OpRow) (v : Word32) : Bool := v &&& r.mask == r.matchBits

/-- The match and mask list of 30_encoding.md R82, in its order. -/
def opRows : List OpRow :=
  [ ⟨0x00000000, 0xFFFFFFFF, fun _ _ _ => .nop⟩,
    ⟨0x00000001, 0xFFFFFCFF, fun s _ _ => .ccFwd s⟩,
    ⟨0x00000002, 0xFFFFFCFF, fun s _ _ => .ccInv s⟩,
    ⟨0x00000003, 0xFFFFFFFF, fun _ _ _ => .ccFwd4⟩,
    ⟨0x00000004, 0xFFFFFFFF, fun _ _ _ => .ccInv4⟩,
    ⟨0x00000010, 0xFFFFFFFF, fun _ _ _ => .dctFwd⟩,
    ⟨0x00000011, 0xFFFFFFFF, fun _ _ _ => .dctInv⟩ ] ++
  [ ⟨0x00000020, 0xFFFFFFFF, fun _ _ _ => .cqFwd⟩,
    ⟨0x00000021, 0xFFFFFFFF, fun _ _ _ => .cqInv⟩,
    ⟨0x00000030, 0xFFFFFFFF, fun _ _ _ => .pack⟩,
    ⟨0x00000031, 0xFFFFFFFF, fun _ _ _ => .unpack⟩,
    ⟨0x00000040, 0xFFFFFFFF, fun _ _ _ => .encBlock⟩,
    ⟨0x00000041, 0xFFFFFFFF, fun _ _ _ => .decBlock⟩ ] ++
  [ ⟨0x00000050, 0xFF00FFFF, fun _ w _ => .bfFitsU w⟩,
    ⟨0x00000051, 0xFF00FFFF, fun _ w _ => .bfFitsS w⟩,
    ⟨0x00000052, 0x0000FFFF, fun _ w l => .bfGetU w l⟩,
    ⟨0x00000053, 0x0000FFFF, fun _ w l => .bfGetS w l⟩,
    ⟨0x00000054, 0x0000FFFF, fun _ w l => .bfSetU w l⟩,
    ⟨0x00000055, 0x0000FFFF, fun _ w l => .bfSetS w l⟩,
    ⟨0x00000060, 0xFFFFFFFF, fun _ _ _ => .blkStart⟩,
    ⟨0x00000061, 0xFFFFFFFF, fun _ _ _ => .blkNext⟩ ]

/-- Why a command word is illegal: the three reasons of 30_encoding.md R84, and bytes that are no
command word at all (R85). -/
inductive DecodeError where
  /-- The OPC value is in no row of R82. -/
  | unassignedOpcode (opc : Byte)
  /-- The RSV field is not 0. -/
  | reservedNotZero
  /-- A field that the opcode does not use is not 0. -/
  | unusedFieldNotZero
  /-- Not exactly the four bytes of one command word (R85). -/
  | notOneWord
deriving DecidableEq, Repr

/-- The reason of 30_encoding.md R84 for a word that no row of R82 matches. -/
def illegalReason (v : Word32) : DecodeError :=
  if opRows.any (fun r => v.extractLsb' 0 8 == r.matchBits.extractLsb' 0 8) then
    if v.extractLsb' 10 6 == 0 then .unusedFieldNotZero else .reservedNotZero
  else .unassignedOpcode (v.extractLsb' 0 8)

/-- The decode function of 30_encoding.md R86, with the reason of R84 where R86 answers none. -/
def decode (v : Word32) : Except DecodeError Instr :=
  match opRows.find? (fun r => r.hits v) with
  | some r => .ok (r.build (v.extractLsb' 8 2) (v.extractLsb' 16 8) (v.extractLsb' 24 8))
  | none => .error (illegalReason v)

/-- The byte lanes of a register value, lane 0 first (20_memory.md R64). -/
def laneBytes (v : Word32) : List Byte :=
  [v.extractLsb' 0 8, v.extractLsb' 8 8, v.extractLsb' 16 8, v.extractLsb' 24 8]

/-- The command that four byte lanes hold, lane 0 first (20_memory.md R64; 30_encoding.md R85). -/
def decodeBytes : List Byte → Except DecodeError Instr
  | [b0, b1, b2, b3] => decode (b3 ++ b2 ++ b1 ++ b0)
  | _ => .error .notOneWord

/-- The low `nbits` bits of `w` as a command word, the bits above them 0. -/
def tableWord (nbits w : Nat) : Word32 := BitVec.ofNat 32 (w % 2 ^ nbits)

/-- The instruction the decoder reads from an opcode-table row's bits; none where it refuses, and
for a row wider than a command word (30_encoding.md R85). -/
def decodeTableWord (nbits w : Nat) : Option Instr :=
  if nbits ≤ 32 then (decodeBytes (laneBytes (tableWord nbits w))).toOption else none

/-- `cmd = {L, W, RSV, S, OPC}` (30_encoding.md R80). -/
def assemble (f : CmdFields) : Word32 := f.l ++ f.w ++ f.rsv ++ f.s ++ f.opc

/-- The command word of an instruction (30_encoding.md R80, R82). -/
def encode : Instr → Word32
  | .nop => assemble ⟨0x00, 0, 0, 0, 0⟩
  | .ccFwd s => assemble ⟨0x01, s, 0, 0, 0⟩
  | .ccInv s => assemble ⟨0x02, s, 0, 0, 0⟩
  | .ccFwd4 => assemble ⟨0x03, 0, 0, 0, 0⟩
  | .ccInv4 => assemble ⟨0x04, 0, 0, 0, 0⟩
  | .dctFwd => assemble ⟨0x10, 0, 0, 0, 0⟩
  | .dctInv => assemble ⟨0x11, 0, 0, 0, 0⟩
  | .cqFwd => assemble ⟨0x20, 0, 0, 0, 0⟩
  | .cqInv => assemble ⟨0x21, 0, 0, 0, 0⟩
  | .pack => assemble ⟨0x30, 0, 0, 0, 0⟩
  | .unpack => assemble ⟨0x31, 0, 0, 0, 0⟩
  | .encBlock => assemble ⟨0x40, 0, 0, 0, 0⟩
  | .decBlock => assemble ⟨0x41, 0, 0, 0, 0⟩
  | .bfFitsU w => assemble ⟨0x50, 0, 0, w, 0⟩
  | .bfFitsS w => assemble ⟨0x51, 0, 0, w, 0⟩
  | .bfGetU w l => assemble ⟨0x52, 0, 0, w, l⟩
  | .bfGetS w l => assemble ⟨0x53, 0, 0, w, l⟩
  | .bfSetU w l => assemble ⟨0x54, 0, 0, w, l⟩
  | .bfSetS w l => assemble ⟨0x55, 0, 0, w, l⟩
  | .blkStart => assemble ⟨0x60, 0, 0, 0, 0⟩
  | .blkNext => assemble ⟨0x61, 0, 0, 0, 0⟩

/-- An instruction is well formed when the fields of its word are a legal command
(30_encoding.md R83). The operands' types already hold them to the widths of R81, so every
instruction is (Laws/PerInstr.lean). -/
def Instr.WellFormed (i : Instr) : Bool := (CmdFields.ofWord (encode i)).legal

end Sys2Proof
end

