-- ==== Sys2Proof/Config.lean ====
section
/-! DEFINITION. What the spec leaves OPEN (00_scope.md R5; 93_implementation_defined.md): constants
with no body, so that nothing can be proved of their values. -/

namespace Sys2Proof.Config

/-- LAT (70_reset_and_hazards.md R274): the cycles BUSY stays 1 for the command word given, at the
issue with the number given. Any finite number, possibly different at each issue.
DESIGN CHOICE (log 2): a free value. -/
opaque lat : Word32 → Nat → Nat

/-- The n-th free value: what a read returns where the spec lets it return any value
(70_reset_and_hazards.md R276; 20_memory.md R62). DESIGN CHOICE (log 3): a free value. -/
opaque freeWord : Nat → Word32

/-- CORE_BASE / 256 (20_memory.md R60, "assumed 256-byte aligned"). DESIGN CHOICE (log 4): a free
value. -/
opaque coreBaseBlock : Nat

/-- CORE_BASE (20_memory.md R60). -/
def coreBase : Nat := 256 * coreBaseBlock

end Sys2Proof.Config
end

