-- ==== Sys2Proof/Machine/Parameters.lean ====
section
/-! DEFINITION. The parameters of 00_scope.md R5 that are fixed for this hardware, and the default of
the parameter CHROMA_TABLE (42_chroma_quant.md R140). -/

namespace Sys2Proof.Machine

/-- CHROMA_TABLE: NCHROMA = 16 rationals (42_chroma_quant.md R140). -/
abbrev ChromaTable := Vector Rat 16

/-- The identification value of 10_state.md R22: the ASCII bytes "CP40". -/
def idValue : Word32 := 0x43503430

/-- BF_BITS: the width of the bit-field word (00_scope.md R5). -/
def bfBits : Nat := 64

/-- A_SCALE (00_scope.md R5). -/
def aScale : Int := 63

/-- AC_LIMIT: the clamp bound of b, c, d before mapping (00_scope.md R5). -/
def acLimit : Rat := 3 / 10

/-- AC_SCALE: the slope of `map` (00_scope.md R5). -/
def acScale : Rat := 100

/-- OUT_DENOM: the scale of reconstructed channels (00_scope.md R5). -/
def outDenom : Int := 200

/-- NCHROMA: the entries of the chroma table (00_scope.md R5). -/
def nChroma : Nat := 16

/-- The default CHROMA_TABLE of 42_chroma_quant.md R140, each entry the exact decimal it spells. -/
def defaultChromaTable : ChromaTable :=
  #v[-35 / 100, -20 / 100, -15 / 100, -10 / 100, -77 / 1000, -55 / 1000, -33 / 1000, -11 / 1000,
     11 / 1000, 33 / 1000, 55 / 1000, 77 / 1000, 10 / 100, 15 / 100, 20 / 100, 35 / 100]

/-- A table a part may have: strictly increasing (42_chroma_quant.md R140). -/
abbrev StrictlyIncreasing (t : ChromaTable) : Prop := t.toList.Pairwise (· < ·)

end Sys2Proof.Machine
end

