-- ==== Sys2Proof/Machine/State.lean ====
section
/-! DEFINITION. The state of the core as plain data: every register, the sample file and the
command tracking of 10_state.md R20, and beside them the model's own fields (the parameter
CHROMA_TABLE, the counters behind the free values, and the host's accesses yet to come). -/

namespace Sys2Proof.Machine

/-- One of the three channels of a pixel (10_state.md R27). -/
inductive Channel where
  | r | g | b
deriving DecidableEq, Repr

/-- The pixel registers of one slot: the V fields of PIXn_R, PIXn_G, PIXn_B (10_state.md R27). -/
structure Pixel where
  r : Half
  g : Half
  b : Half
deriving DecidableEq, Repr

/-- Four like things, one for each slot 0..3 (00_scope.md R12): slot 0 top-left, 1 top-right,
2 bottom-left, 3 bottom-right. -/
structure Quad (α : Type) where
  s0 : α
  s1 : α
  s2 : α
  s3 : α
deriving DecidableEq, Repr

/-- The error codes 1..6 of 60_exceptions.md R241. NONE is `none` of `Option CoreError`; the codes
7..15, never produced, have no name here. -/
inductive CoreError where
  /-- 1: a width out of range (40_bitfield.md R101). -/
  | invalidWidth
  /-- 2: a value does not fit its field (40_bitfield.md R108, R109; 44_codeword.md R181). -/
  | overflow
  /-- 3: DENOM = 0 when a forward conversion needs it (41_colorspace.md R122). -/
  | denomZero
  /-- 4: the CMD word matches no opcode row (30_encoding.md R84). -/
  | illegalCmd
  /-- 5: CMD written while BUSY = 1 (30_encoding.md R87). -/
  | cmdWhileBusy
  /-- 6: CW_PB > 15 or CW_PR > 15 (42_chroma_quant.md R144). -/
  | indexRange
deriving DecidableEq, Repr

/-- The registers of the window (20_memory.md R61). -/
inductive Reg where
  | id | ctrl | status | cmd | denom
  | pix (s : Slot) (c : Channel)
  | cwA | cwB | cwC | cwD | cwPb | cwPr
  | word
  | bfWordLo | bfWordHi | bfValueLo | bfValueHi | bfResultLo | bfResultHi
  | frameW | frameH | geom | bpos | bstat | nblk | cwidx
  | pxy (s : Slot)
deriving DecidableEq, Repr

/-- What one bus cycle of the core sees. `off` is the offset in the 256-byte window (20_memory.md
R60: "CORE_BASE + 0x000 .. CORE_BASE + 0x0FF"), `size` the number of bytes of the access. -/
inductive BusEvent where
  /-- No access reaches the core in this cycle. -/
  | idle
  /-- `BusRead(CORE_BASE + off, size)` (00_scope.md R11). -/
  | read (off : Byte) (size : Nat)
  /-- `BusWrite(CORE_BASE + off, size, data)` (00_scope.md R11). Only a write of 4 bytes looks at
  the data (20_memory.md R62). -/
  | write (off : Byte) (size : Nat) (data : Word32)
  /-- The reset input `rst` (70_reset_and_hazards.md R270). -/
  | hardReset
deriving DecidableEq, Repr

/-- The response to the host's latest access. -/
inductive BusResponse where
  /-- No access yet. -/
  | noAccess
  /-- A write completed without bus error. -/
  | writeDone
  /-- A read completed with this value. -/
  | readData (v : Word32)
  /-- A write got a bus error (20_memory.md R62). -/
  | writeError
  /-- A read got a bus error and this data, "any value" (20_memory.md R62). The spec gives it no width;
  32 bits whatever the size of the access is DESIGN CHOICE (log 18). -/
  | readError (v : Word32)
deriving DecidableEq, Repr

/-- How a step can stop for good. -/
inductive Fault where
  /-- Raised by `step` alone: the command tracked as pending is a word that is no command. Issue
  accepts only words that decode (30_encoding.md R87), so no run reaches such a state (log 7). Safe:
  the model stops where the spec gives the core no such state. -/
  | pendingNotACommand (v : Word32)
deriving DecidableEq, Repr

/-- Why a command has no meaning. -/
inductive Refusal where
  /-- Raised by an arm of `exec` whose command has no meaning yet. Safe. No arm raises it. -/
  | notModelled (mnemonic : String)
deriving DecidableEq, Repr

/-- The state of the core (10_state.md R20), and the model's own fields after it. -/
structure State where
  /-- CTRL.IE_DONE (10_state.md R23). -/
  ieDone : Bool
  /-- CTRL.IE_ERR (10_state.md R23). -/
  ieErr : Bool
  /-- STATUS.BUSY (10_state.md R24). -/
  busy : Bool
  /-- STATUS.DONE (10_state.md R24). -/
  done : Bool
  /-- STATUS.ERR; `none` is code 0 (10_state.md R24). -/
  err : Option CoreError
  /-- CMD (10_state.md R25). -/
  cmd : Word32
  /-- DENOM bits 15:0 (10_state.md R26). -/
  denom : Half
  /-- PIXn_R, PIXn_G, PIXn_B bits 15:0 (10_state.md R27). -/
  pix : Quad Pixel
  /-- CW_A (10_state.md R28). -/
  cwA : Word32
  /-- CW_B (10_state.md R29). -/
  cwB : Word32
  /-- CW_C (10_state.md R29). -/
  cwC : Word32
  /-- CW_D (10_state.md R29). -/
  cwD : Word32
  /-- CW_PB (10_state.md R30). -/
  cwPb : Word32
  /-- CW_PR (10_state.md R30). -/
  cwPr : Word32
  /-- WORD (10_state.md R31). -/
  word : Word32
  /-- BF_WORD_LO (10_state.md R32). -/
  bfWordLo : Word32
  /-- BF_WORD_HI (10_state.md R32). -/
  bfWordHi : Word32
  /-- BF_VALUE_LO (10_state.md R33). -/
  bfValueLo : Word32
  /-- BF_VALUE_HI (10_state.md R33). -/
  bfValueHi : Word32
  /-- BF_RESULT_LO (10_state.md R34). -/
  bfResultLo : Word32
  /-- BF_RESULT_HI (10_state.md R34). -/
  bfResultHi : Word32
  /-- FRAME_W bits 15:0 (10_state.md R35). -/
  frameW : Half
  /-- FRAME_H bits 15:0 (10_state.md R35). -/
  frameH : Half
  /-- GEOM.TW (10_state.md R36). -/
  geomTw : Half
  /-- GEOM.TH (10_state.md R36). -/
  geomTh : Half
  /-- BPOS.BCOL (10_state.md R37). -/
  bposCol : Half
  /-- BPOS.BROW (10_state.md R37). -/
  bposRow : Half
  /-- BSTAT.BEND (10_state.md R38). -/
  bend : Bool
  /-- The sample file's Y[0..3] (10_state.md R45). -/
  y : Quad Rat
  /-- The sample file's PB[0..3] (10_state.md R45). -/
  pb : Quad Rat
  /-- The sample file's PR[0..3] (10_state.md R45). -/
  pr : Quad Rat
  /-- The accepted command word being executed (10_state.md R46). -/
  pending : Option Word32
  /-- MODEL's own: the parameter CHROMA_TABLE (42_chroma_quant.md R140). No step writes it (log 5). -/
  chromaTable : ChromaTable
  /-- MODEL's own: the cycles of LAT still to pass before the pending command completes (log 2). -/
  wait : Nat
  /-- MODEL's own: how many commands have been accepted (log 2). -/
  issues : Nat
  /-- MODEL's own: how many free values have been drawn (log 3). -/
  draws : Nat
  /-- MODEL's own: what the bus cycles to come will carry, in bus order; idle after the last (log 1). -/
  bus : List BusEvent
  /-- MODEL's own: the response to the host's latest access (log 1). -/
  resp : BusResponse
deriving DecidableEq, Repr

/-- The core after reset (10_state.md R48; 70_reset_and_hazards.md R272): every register at the value
in its reset column, the sample file 0, no command pending. The model's own fields start at the values
of log 5 and log 8. -/
def State.reset : State where
  ieDone := false
  ieErr := false
  busy := false
  done := false
  err := none
  cmd := 0
  denom := 0
  pix := ⟨⟨0, 0, 0⟩, ⟨0, 0, 0⟩, ⟨0, 0, 0⟩, ⟨0, 0, 0⟩⟩
  cwA := 0
  cwB := 0
  cwC := 0
  cwD := 0
  cwPb := 0
  cwPr := 0
  word := 0
  bfWordLo := 0
  bfWordHi := 0
  bfValueLo := 0
  bfValueHi := 0
  bfResultLo := 0
  bfResultHi := 0
  frameW := 0
  frameH := 0
  geomTw := 0
  geomTh := 0
  bposCol := 0
  bposRow := 0
  bend := true
  y := ⟨0, 0, 0, 0⟩
  pb := ⟨0, 0, 0, 0⟩
  pr := ⟨0, 0, 0, 0⟩
  pending := none
  chromaTable := defaultChromaTable
  wait := 0
  issues := 0
  draws := 0
  bus := []
  resp := .noAccess

end Sys2Proof.Machine
end

