-- ==== Sys2Proof/Machine/Ops.lean ====
section
/-! DEFINITION. The shared operations: slots, the completion of a command, raising a core error (the
core's form of an exception, 60_exceptions.md R242) and reset (its only way back, R249). -/

namespace Sys2Proof.Machine

/-- The member of slot `s`. -/
def Quad.get {α : Type} (q : Quad α) (s : Slot) : α :=
  match s.toNat with
  | 0 => q.s0
  | 1 => q.s1
  | 2 => q.s2
  | _ => q.s3

/-- The same four things with the member of slot `s` replaced. -/
def Quad.set {α : Type} (q : Quad α) (s : Slot) (v : α) : Quad α :=
  match s.toNat with
  | 0 => { q with s0 := v }
  | 1 => { q with s1 := v }
  | 2 => { q with s2 := v }
  | _ => { q with s3 := v }

/-- The same function on every slot. -/
def Quad.map {α β : Type} (f : α → β) (q : Quad α) : Quad β :=
  ⟨f q.s0, f q.s1, f q.s2, f q.s3⟩

/-- The same value in every slot. -/
def Quad.all {α : Type} (v : α) : Quad α := ⟨v, v, v, v⟩

/-- The sum over the slots. -/
def Quad.sum (q : Quad Rat) : Rat := q.s0 + q.s1 + q.s2 + q.s3

/-- One channel of a pixel. -/
def Pixel.get (p : Pixel) : Channel → Half
  | .r => p.r
  | .g => p.g
  | .b => p.b

/-- A pixel with one channel replaced. -/
def Pixel.set (p : Pixel) (c : Channel) (v : Half) : Pixel :=
  match c with
  | .r => { p with r := v }
  | .g => { p with g := v }
  | .b => { p with b := v }

/-- The completion of a command that did not raise: "`STATUS.BUSY <- 0`, `STATUS.DONE <- 1`,
`pending <- none`" (70_reset_and_hazards.md R274). -/
def State.complete (s : State) : State :=
  { s with busy := false, done := true, pending := none }

/-- STATUS.ERR keeps the first code written (60_exceptions.md R242, R244). -/
def recordError (old : Option CoreError) (c : CoreError) : Option CoreError :=
  match old with
  | none => some c
  | some e => some e

/-- `raise CoreError(code)` during a command's execution (60_exceptions.md R242): no destination is
written; ERR takes the code unless it holds an older one; DONE is set, BUSY cleared, `pending` none. -/
def State.raiseError (s : State) (c : CoreError) : State :=
  { s with err := recordError s.err c, busy := false, done := true, pending := none }

/-- The completion step of a command whose pseudocode is `body`: it runs on the state, and either all
its writes happen or, after a raise, none (00_scope.md R11; 70_reset_and_hazards.md R274). -/
def runCommand (body : State → Except CoreError State) (s : State) :
    Host.Outcome State Fault Refusal :=
  match body s with
  | .ok s' => .next s'.complete
  | .error c => .next (s.raiseError c)

/-- Either reset (70_reset_and_hazards.md R270, R271): every piece of the core's state takes its reset
value. What is not the core's state stays: the part's chroma table, the counters behind the free
values, the host's accesses to come and the last response (log 8). -/
def State.resetCore (s : State) : State :=
  { State.reset with
    chromaTable := s.chromaTable, issues := s.issues, draws := s.draws, bus := s.bus,
    resp := s.resp }

/-- The pending command word when no cycle of its LAT is left: the next step completes it
(70_reset_and_hazards.md R274). -/
def State.completing (s : State) : Option Word32 :=
  if s.wait = 0 then s.pending else none

/-- The state of a core that has just accepted `v` with LAT = 0 (30_encoding.md R87 case 4). -/
def State.acceptedNow (s : State) (v : Word32) : State :=
  { s with cmd := v, done := false, busy := true, pending := some v, wait := 0 }

end Sys2Proof.Machine
end

