-- ==== Sys2Proof/Machine/Flags.lean ====
section
/-! DEFINITION. The status flags (10_state.md R44): the error code, the interrupt line and the words
that reads of CTRL, STATUS and BSTAT return. There are no arithmetic flags. -/

namespace Sys2Proof.Machine

/-- The code of an error in STATUS.ERR (60_exceptions.md R241). -/
def CoreError.code : CoreError → BitVec 4
  | .invalidWidth => 1
  | .overflow => 2
  | .denomZero => 3
  | .illegalCmd => 4
  | .cmdWhileBusy => 5
  | .indexRange => 6

/-- STATUS.ERR; 0 means no error (10_state.md R24). -/
def errCode (e : Option CoreError) : BitVec 4 :=
  match e with
  | none => 0
  | some c => c.code

/-- The interrupt output (10_state.md R47):
`(STATUS.DONE and CTRL.IE_DONE) or (STATUS.ERR != 0 and CTRL.IE_ERR)`. -/
def State.irq (s : State) : Bool :=
  (s.done && s.ieDone) || (errCode s.err != 0 && s.ieErr)

/-- The word a read of CTRL returns (10_state.md R23): IE_DONE at 0, IE_ERR at 1, the rest 0. -/
def State.ctrlWord (s : State) : Word32 :=
  (0#30 ++ flagBit s.ieErr ++ flagBit s.ieDone : BitVec 32)

/-- The word a read of STATUS returns (10_state.md R24): BUSY at 0, DONE at 1, ERR at 7:4, IRQ at 8,
the rest 0. -/
def State.statusWord (s : State) : Word32 :=
  (0#23 ++ flagBit s.irq ++ errCode s.err ++ 0#2 ++ flagBit s.done ++ flagBit s.busy : BitVec 32)

/-- The word a read of BSTAT returns (10_state.md R38): BEND at 0, the rest 0. -/
def State.bstatWord (s : State) : Word32 := (0#31 ++ flagBit s.bend : BitVec 32)

end Sys2Proof.Machine
end

