-- ==== Sys2Proof/Machine/Operands.lean ====
section
/-! DEFINITION. The registers as operands: their offsets (20_memory.md R61), what a read of each
returns, how commands read them (00_scope.md R7), and which registers each command writes. -/

namespace Sys2Proof.Machine

/-- c = 0 for R, 1 for G, 2 for B (10_state.md R27). -/
def Channel.index : Channel → Nat
  | .r => 0
  | .g => 1
  | .b => 2

/-- The offset of a register in the window (20_memory.md R61; 10_state.md R27 for PIXn_c). -/
def Reg.offset : Reg → Nat
  | .id => 0x000
  | .ctrl => 0x004
  | .status => 0x008
  | .cmd => 0x00C
  | .denom => 0x010
  | .pix n c => 0x020 + 12 * n.toNat + 4 * c.index
  | .cwA => 0x050
  | .cwB => 0x054
  | .cwC => 0x058
  | .cwD => 0x05C
  | .cwPb => 0x060
  | .cwPr => 0x064
  | .word => 0x068
  | .bfWordLo => 0x070
  | .bfWordHi => 0x074
  | .bfValueLo => 0x078
  | .bfValueHi => 0x07C
  | .bfResultLo => 0x080
  | .bfResultHi => 0x084
  | .frameW => 0x090
  | .frameH => 0x094
  | .geom => 0x098
  | .bpos => 0x09C
  | .bstat => 0x0A0
  | .nblk => 0x0A4
  | .cwidx => 0x0A8
  | .pxy n => 0x0B0 + 4 * n.toNat

/-- The register at an offset, as the register map of 20_memory.md R61 lists them; none at a reserved
offset and at an offset that is not a multiple of 4. -/
def regAt (off : Byte) : Option Reg :=
  match off.toNat with
  | 0x000 => some .id
  | 0x004 => some .ctrl
  | 0x008 => some .status
  | 0x00C => some .cmd
  | 0x010 => some .denom
  | 0x020 => some (.pix 0 .r)
  | 0x024 => some (.pix 0 .g)
  | 0x028 => some (.pix 0 .b)
  | 0x02C => some (.pix 1 .r)
  | 0x030 => some (.pix 1 .g)
  | 0x034 => some (.pix 1 .b)
  | 0x038 => some (.pix 2 .r)
  | 0x03C => some (.pix 2 .g)
  | 0x040 => some (.pix 2 .b)
  | 0x044 => some (.pix 3 .r)
  | 0x048 => some (.pix 3 .g)
  | 0x04C => some (.pix 3 .b)
  | 0x050 => some .cwA
  | 0x054 => some .cwB
  | 0x058 => some .cwC
  | 0x05C => some .cwD
  | 0x060 => some .cwPb
  | 0x064 => some .cwPr
  | 0x068 => some .word
  | 0x070 => some .bfWordLo
  | 0x074 => some .bfWordHi
  | 0x078 => some .bfValueLo
  | 0x07C => some .bfValueHi
  | 0x080 => some .bfResultLo
  | 0x084 => some .bfResultHi
  | 0x090 => some .frameW
  | 0x094 => some .frameH
  | 0x098 => some .geom
  | 0x09C => some .bpos
  | 0x0A0 => some .bstat
  | 0x0A4 => some .nblk
  | 0x0A8 => some .cwidx
  | 0x0B0 => some (.pxy 0)
  | 0x0B4 => some (.pxy 1)
  | 0x0B8 => some (.pxy 2)
  | 0x0BC => some (.pxy 3)
  | _ => none

/-- BF_WORD = {BF_WORD_HI, BF_WORD_LO} (10_state.md R32). -/
def State.bfWord (s : State) : Word64 := join s.bfWordHi s.bfWordLo

/-- BF_VALUE = {BF_VALUE_HI, BF_VALUE_LO} (10_state.md R33). -/
def State.bfValue (s : State) : Word64 := join s.bfValueHi s.bfValueLo

/-- BF_RESULT = {BF_RESULT_HI, BF_RESULT_LO} (10_state.md R34). -/
def State.bfResult (s : State) : Word64 := join s.bfResultHi s.bfResultLo

/-- `x[BF_RESULT_LO] <- r[31:0] ; x[BF_RESULT_HI] <- r[63:32]` (40_bitfield.md R100). -/
def State.setBfResult (s : State) (r : Word64) : State :=
  { s with bfResultLo := low32 r, bfResultHi := high32 r }

/-- NBLK = (TW / 2) * (TH / 2) (10_state.md R39). -/
def State.nblk (s : State) : Nat := (s.geomTw.toNat / 2) * (s.geomTh.toNat / 2)

/-- CWIDX = BROW * (TW / 2) + BCOL (10_state.md R40). -/
def State.cwidx (s : State) : Nat := s.bposRow.toNat * (s.geomTw.toNat / 2) + s.bposCol.toNat

/-- The pixel column of slot `n` of block column `i`: `2i + (n mod 2)` (45_block.md R200). -/
def slotColumn (i : Nat) (n : Slot) : Nat := 2 * i + n.toNat % 2

/-- The pixel row of slot `n` of block row `j`: `2j + (n div 2)` (45_block.md R200). -/
def slotRow (j : Nat) (n : Slot) : Nat := 2 * j + n.toNat / 2

/-- PXYn (10_state.md R41): the row of slot n of the current block at 31:16, its column at 15:0; modulo
2^16 where no run can be (log 12). -/
def State.pxy (s : State) (n : Slot) : Word32 :=
  join16 (BitVec.ofNat 16 (slotRow s.bposRow.toNat n))
    (BitVec.ofNat 16 (slotColumn s.bposCol.toNat n))

/-- What a read of a register returns when no hazard applies: its fields, and 0 in every reserved
field (10_state.md R22 to R42). -/
def readReg (s : State) : Reg → Word32
  | .id => idValue
  | .ctrl => s.ctrlWord
  | .status => s.statusWord
  | .cmd => s.cmd
  | .denom => s.denom.setWidth 32
  | .pix n c => ((s.pix.get n).get c).setWidth 32
  | .cwA => s.cwA
  | .cwB => s.cwB
  | .cwC => s.cwC
  | .cwD => s.cwD
  | .cwPb => s.cwPb
  | .cwPr => s.cwPr
  | .word => s.word
  | .bfWordLo => s.bfWordLo
  | .bfWordHi => s.bfWordHi
  | .bfValueLo => s.bfValueLo
  | .bfValueHi => s.bfValueHi
  | .bfResultLo => s.bfResultLo
  | .bfResultHi => s.bfResultHi
  | .frameW => s.frameW.setWidth 32
  | .frameH => s.frameH.setWidth 32
  | .geom => join16 s.geomTh s.geomTw
  | .bpos => join16 s.bposRow s.bposCol
  | .bstat => s.bstatWord
  | .nblk => BitVec.ofNat 32 s.nblk
  | .cwidx => BitVec.ofNat 32 s.cwidx
  | .pxy n => s.pxy n

/-- The pixel registers of one slot. -/
def pixRegs (n : Slot) : List Reg := [.pix n .r, .pix n .g, .pix n .b]

/-- The pixel registers of all four slots. -/
def allPixRegs : List Reg := pixRegs 0 ++ pixRegs 1 ++ pixRegs 2 ++ pixRegs 3

/-- The codeword field registers. -/
def codewordRegs : List Reg := [.cwA, .cwB, .cwC, .cwD, .cwPb, .cwPr]

/-- The two halves of BF_RESULT. -/
def bfResultRegs : List Reg := [.bfResultLo, .bfResultHi]

/-- The registers a command writes, as its rule lists them, for the read hazard of
70_reset_and_hazards.md R276 ("its destinations, listed in its rule; for BLK_START also NBLK, CWIDX
and PXY0-3"). The sample file is no register. For BLK_NEXT the rule lists BPOS and BSTAT alone
(45_block.md R205; DEDUCED, log 6). -/
def destinations : Instr → List Reg
  | .nop => []
  | .ccFwd _ => []
  | .ccInv n => pixRegs n
  | .ccFwd4 => []
  | .ccInv4 => allPixRegs
  | .dctFwd => [.cwA, .cwB, .cwC, .cwD]
  | .dctInv => []
  | .cqFwd => [.cwPb, .cwPr]
  | .cqInv => []
  | .pack => [.word]
  | .unpack => codewordRegs
  | .encBlock => codewordRegs ++ [.word]
  | .decBlock => codewordRegs ++ allPixRegs
  | .bfFitsU _ => bfResultRegs
  | .bfFitsS _ => bfResultRegs
  | .bfGetU _ _ => bfResultRegs
  | .bfGetS _ _ => bfResultRegs
  | .bfSetU _ _ => bfResultRegs
  | .bfSetS _ _ => bfResultRegs
  | .blkStart => [.geom, .bpos, .bstat, .nblk, .cwidx, .pxy 0, .pxy 1, .pxy 2, .pxy 3]
  | .blkNext => [.bpos, .bstat]

end Sys2Proof.Machine
end

