-- ==== Sys2Proof/Machine/Bus.lean ====
section
/-! DEFINITION. The register window seen from the bus: issue of a command (30_encoding.md R87), reads
and writes with their hazards (20_memory.md R61 to R66; 70_reset_and_hazards.md R275, R276), resets,
and one bus cycle. -/

namespace Sys2Proof.Machine

/-- A 4-byte write of `v` to CMD: the four cases of 30_encoding.md R87. -/
def issue (v : Word32) (s : State) : State :=
  if s.err ≠ none then s
  else if s.busy then { s with err := some .cmdWhileBusy }
  else
    match decode v with
    | .error _ => { s with cmd := v, done := true, err := some .illegalCmd }
    | .ok _ =>
      { s with
        cmd := v, done := false, busy := true, pending := some v
        wait := Config.lat v s.issues, issues := s.issues + 1 }

/-- A write to CTRL (10_state.md R23; 70_reset_and_hazards.md R271): bit 31 resets the core, and then
the IE bits of the same write are not kept. -/
def writeCtrl (v : Word32) (s : State) : State :=
  if v.getLsbD 31 then s.resetCore
  else { s with ieDone := v.getLsbD 0, ieErr := v.getLsbD 1 }

/-- A write to STATUS (10_state.md R24): only DONE, and only when bit 1 of `v` is 1. -/
def writeStatus (v : Word32) (s : State) : State :=
  if v.getLsbD 1 then { s with done := false } else s

/-- A write that only stores the writable fields of a register; an RO register keeps its value
(10_state.md R26 to R42; 20_memory.md R66). CTRL, STATUS and CMD are not written this way. -/
def storeReg (r : Reg) (v : Word32) (s : State) : State :=
  match r with
  | .denom => { s with denom := v.setWidth 16 }
  | .pix n c => { s with pix := s.pix.set n ((s.pix.get n).set c (v.setWidth 16)) }
  | .cwA => { s with cwA := v }
  | .cwB => { s with cwB := v }
  | .cwC => { s with cwC := v }
  | .cwD => { s with cwD := v }
  | .cwPb => { s with cwPb := v }
  | .cwPr => { s with cwPr := v }
  | .word => { s with word := v }
  | .bfWordLo => { s with bfWordLo := v }
  | .bfWordHi => { s with bfWordHi := v }
  | .bfValueLo => { s with bfValueLo := v }
  | .bfValueHi => { s with bfValueHi := v }
  | .frameW => { s with frameW := v.setWidth 16 }
  | .frameH => { s with frameH := v.setWidth 16 }
  | .id | .ctrl | .status | .cmd => s
  | .bfResultLo | .bfResultHi | .geom | .bpos | .bstat | .nblk | .cwidx | .pxy _ => s

/-- A defined write to a register. While BUSY = 1 a write to any register other than CTRL, STATUS and
CMD is dropped, without bus error (70_reset_and_hazards.md R275). -/
def writeReg (r : Reg) (v : Word32) (s : State) : State :=
  match r with
  | .ctrl => writeCtrl v s
  | .status => writeStatus v s
  | .cmd => issue v s
  | r => if s.busy then s else storeReg r v s

/-- Is `r` a destination of the command in flight (70_reset_and_hazards.md R276)? -/
def pendingWrites (s : State) (r : Reg) : Bool :=
  match s.pending with
  | none => false
  | some v =>
    match decode v with
    | .ok i => (destinations i).contains r
    | .error _ => false

/-- A defined access: 4 bytes at an offset that is a multiple of 4 (20_memory.md R62). -/
def definedAccess (off : Byte) (size : Nat) : Bool := size == 4 && off.toNat % 4 == 0

/-- A free value is drawn (log 3). -/
def State.draw (s : State) : State := { s with draws := s.draws + 1 }

/-- `BusRead` at an offset of the window. A read of a destination of the command in flight returns a
free value (70_reset_and_hazards.md R276); a reserved offset reads 0 (20_memory.md R63); an access that
is not defined gets a bus error and any data (20_memory.md R62), one free value of 32 bits whatever
its size (DESIGN CHOICE, log 18). -/
def busRead (off : Byte) (size : Nat) (s : State) : State :=
  if definedAccess off size then
    match regAt off with
    | none => { s with resp := .readData 0 }
    | some r =>
      if s.busy && pendingWrites s r then
        { s.draw with resp := .readData (Config.freeWord s.draws) }
      else { s with resp := .readData (readReg s r) }
  else { s.draw with resp := .readError (Config.freeWord s.draws) }

/-- `BusWrite` at an offset of the window. A reserved offset ignores the write (20_memory.md R63); an
access that is not defined gets a bus error and changes nothing (20_memory.md R62). -/
def busWrite (off : Byte) (size : Nat) (v : Word32) (s : State) : State :=
  if definedAccess off size then
    match regAt off with
    | none => { s with resp := .writeDone }
    | some r => { writeReg r v s with resp := .writeDone }
  else { s with resp := .writeError }

/-- What an event does to the core. An assertion of `rst` is one event (DEDUCED, log 10). -/
def busEvent (e : BusEvent) (s : State) : State :=
  match e with
  | .idle => s
  | .read off size => busRead off size s
  | .write off size v => busWrite off size v s
  | .hardReset => s.resetCore

/-- One cycle in which no command completes: one cycle of the pending command's LAT passes, and the
next event of the bus takes place; after the last event the bus is idle (log 1, log 2). -/
def busCycle (s : State) : State :=
  match s.bus with
  | [] => { s with wait := s.wait - 1 }
  | e :: rest => busEvent e { s with wait := s.wait - 1, bus := rest }

/-- The offset in the window of a bus address, given CORE_BASE; none where the access does not reach
the core (20_memory.md R60). The first address of the access decides (DEDUCED, log 9). -/
def windowOffset (base addr : Nat) : Option Byte :=
  if base ≤ addr ∧ addr < base + 256 then some (BitVec.ofNat 8 (addr - base)) else none

/-- The event that `BusRead(addr, size)` is to the core (00_scope.md R11; 20_memory.md R60). -/
def readAt (base addr size : Nat) : BusEvent :=
  match windowOffset base addr with
  | some off => .read off size
  | none => .idle

/-- The event that `BusWrite(addr, size, v)` is to the core (00_scope.md R11; 20_memory.md R60). -/
def writeAt (base addr size : Nat) (v : Word32) : BusEvent :=
  match windowOffset base addr with
  | some off => .write off size v
  | none => .idle

end Sys2Proof.Machine
end

