-- ==== Sys2Proof/Machine/Numeric.lean ====
section
/-! DEFINITION. Rounding, clamping and the writing of integers into registers (00_scope.md R7 to R10).
Rationals are exact (R8); the only rounding is `roundHalfAway`. -/

namespace Sys2Proof.Machine

/-- `round` of 00_scope.md R9: to the nearest integer, halves away from zero. -/
def roundHalfAway (x : Rat) : Int :=
  if 0 ≤ x then (x + 1 / 2).floor else -((-x + 1 / 2).floor)

/-- `clamp` of 00_scope.md R10 on rationals. -/
def clampRat (v lo hi : Rat) : Rat :=
  if v < lo then lo else if hi < v then hi else v

/-- `clamp` of 00_scope.md R10 on integers. -/
def clampInt (v lo hi : Int) : Int :=
  if v < lo then lo else if hi < v then hi else v

/-- `zext_32` of an integer that is not negative and `sext_32` of any: its 32-bit two's-complement
pattern (00_scope.md R7). -/
def toReg (n : Int) : Word32 := BitVec.ofInt 32 n

end Sys2Proof.Machine
end

