-- ==== Sys2Proof/Machine/ChromaQuant.lean ====
section
/-! DEFINITION. The chroma quantizer: CQ_FWD, CQ_INV (42_chroma_quant.md R140 to R144). -/

namespace Sys2Proof.Machine

/-- The search behind `index_of_chroma`: entries `vs` stand at indices from `i` on; `best` is the
index of the first nearest entry so far and `dist` its distance from `x`. A later entry takes over
only when it is strictly nearer, so ties keep the lower index (42_chroma_quant.md R141). -/
def nearestFrom (x : Rat) (vs : List Rat) (i best : Nat) (dist : Rat) : Nat :=
  match vs with
  | [] => best
  | v :: rest =>
    if |x - v| < dist then nearestFrom x rest (i + 1) i |x - v|
    else nearestFrom x rest (i + 1) best dist

/-- `index_of_chroma(x)` (42_chroma_quant.md R141): the index of the table entry nearest to `x`, ties
to the lower index. -/
def indexOfChroma (t : ChromaTable) (x : Rat) : Nat :=
  nearestFrom x (t.toList.drop 1) 1 0 |x - t.toList.headD 0|

/-- `chroma_of_index(i)` for `i` in 0..15 (42_chroma_quant.md R142). CQ_INV never asks for more
(R144). -/
def chromaOfIndex (t : ChromaTable) (i : Nat) : Rat := t.toList.getD i 0

/-- The index of a block's average chroma: the average clamped to [-0.5, 0.5], then the nearest
entry (42_chroma_quant.md R143). -/
def quantizeChroma (t : ChromaTable) (q : Quad Rat) : Word32 :=
  BitVec.ofNat 32 (indexOfChroma t (clampRat (q.sum / 4) (-1 / 2) (1 / 2)))

/-- CQ_FWD (42_chroma_quant.md R143). -/
def bodyCqFwd (s : State) : Except CoreError State :=
  .ok { s with
    cwPb := quantizeChroma s.chromaTable s.pb, cwPr := quantizeChroma s.chromaTable s.pr }

/-- CQ_INV (42_chroma_quant.md R144). -/
def bodyCqInv (s : State) : Except CoreError State :=
  if 15 < s.cwPb.toNat ∨ 15 < s.cwPr.toNat then .error .indexRange
  else .ok { s with
    pb := .all (chromaOfIndex s.chromaTable s.cwPb.toNat)
    pr := .all (chromaOfIndex s.chromaTable s.cwPr.toNat) }

/-- The completion step of CQ_FWD (42_chroma_quant.md R143). -/
def execCqFwd (s : State) : Host.Outcome State Fault Refusal := runCommand bodyCqFwd s

/-- The completion step of CQ_INV (42_chroma_quant.md R144). -/
def execCqInv (s : State) : Host.Outcome State Fault Refusal := runCommand bodyCqInv s

end Sys2Proof.Machine
end

