-- ==== Sys2Proof/Machine/BitField.lean ====
section
/-! DEFINITION. The bit-field unit: BF_FITSU, BF_FITSS, BF_GETU, BF_GETS, BF_SETU, BF_SETS
(40_bitfield.md R100 to R109). -/

namespace Sys2Proof.Machine

/-- `fits_u(v, w)` (40_bitfield.md R102). -/
def fitsU (v : Word64) (w : Nat) : Bool :=
  if w = 0 then false else if w = 64 then true else decide (v.toNat < 2 ^ w)

/-- `fits_s(v, w)`, `v` read as s_64 (40_bitfield.md R103). -/
def fitsS (v : Word64) (w : Nat) : Bool :=
  if w = 0 then false
  else if w = 64 then true
  else decide (-2 ^ (w - 1) ≤ v.toInt ∧ v.toInt ≤ 2 ^ (w - 1) - 1)

/-- The field of `word` at lsb `l` of width `w`, zero-extended (40_bitfield.md R106). -/
def getU (word : Word64) (w l : Nat) : Word64 :=
  if w = 0 then 0 else (word.extractLsb' l w).setWidth 64

/-- The field of `word` at lsb `l` of width `w`, sign-extended (40_bitfield.md R107). -/
def getS (word : Word64) (w l : Nat) : Word64 :=
  if w = 0 then 0 else (word.extractLsb' l w).signExtend 64

/-- The pattern of `2^w - 1` (40_bitfield.md R108). -/
def lowOnes (w : Nat) : Word64 := BitVec.ofNat 64 (2 ^ w - 1)

/-- `(word & ~mask) | ((value & (2^w - 1)) << l)` with `mask = (2^w - 1) << l` (40_bitfield.md R108,
R109). -/
def insertField (word : Word64) (w l : Nat) (value : Word64) : Word64 :=
  (word &&& ~~~(lowOnes w <<< l)) ||| ((value &&& lowOnes w) <<< l)

/-- The width check of an extract or insert (40_bitfield.md R101), on integers. -/
def checkField (w l : Nat) : Except CoreError Unit :=
  if 64 < w ∨ 64 < w + l then .error .invalidWidth else .ok ()

/-- The width check of a fit test, which has no lsb (40_bitfield.md R101). -/
def checkWidth (w : Nat) : Except CoreError Unit :=
  if 64 < w then .error .invalidWidth else .ok ()

/-- `set_u` (40_bitfield.md R108): the width check, then the fit check, then the insertion. -/
def setU (word : Word64) (w l : Nat) (value : Word64) : Except CoreError Word64 :=
  match checkField w l with
  | .error c => .error c
  | .ok _ => if fitsU value w then .ok (insertField word w l value) else .error .overflow

/-- `set_s` (40_bitfield.md R109): the width check, then the fit check, then the insertion. -/
def setS (word : Word64) (w l : Nat) (value : Word64) : Except CoreError Word64 :=
  match checkField w l with
  | .error c => .error c
  | .ok _ => if fitsS value w then .ok (insertField word w l value) else .error .overflow

/-- The 64-bit result of a fit test: 1 or 0 (40_bitfield.md R104, R105). -/
def fitResult (fits : Bool) : Word64 := if fits then 1 else 0

/-- BF_FITSU (40_bitfield.md R104). -/
def bodyBfFitsU (w : Byte) (s : State) : Except CoreError State :=
  match checkWidth w.toNat with
  | .error c => .error c
  | .ok _ => .ok (s.setBfResult (fitResult (fitsU s.bfValue w.toNat)))

/-- BF_FITSS (40_bitfield.md R105). -/
def bodyBfFitsS (w : Byte) (s : State) : Except CoreError State :=
  match checkWidth w.toNat with
  | .error c => .error c
  | .ok _ => .ok (s.setBfResult (fitResult (fitsS s.bfValue w.toNat)))

/-- BF_GETU (40_bitfield.md R106). -/
def bodyBfGetU (w l : Byte) (s : State) : Except CoreError State :=
  match checkField w.toNat l.toNat with
  | .error c => .error c
  | .ok _ => .ok (s.setBfResult (getU s.bfWord w.toNat l.toNat))

/-- BF_GETS (40_bitfield.md R107). -/
def bodyBfGetS (w l : Byte) (s : State) : Except CoreError State :=
  match checkField w.toNat l.toNat with
  | .error c => .error c
  | .ok _ => .ok (s.setBfResult (getS s.bfWord w.toNat l.toNat))

/-- BF_SETU (40_bitfield.md R108). -/
def bodyBfSetU (w l : Byte) (s : State) : Except CoreError State :=
  (setU s.bfWord w.toNat l.toNat s.bfValue).map s.setBfResult

/-- BF_SETS (40_bitfield.md R109). -/
def bodyBfSetS (w l : Byte) (s : State) : Except CoreError State :=
  (setS s.bfWord w.toNat l.toNat s.bfValue).map s.setBfResult

/-- The completion step of BF_FITSU (40_bitfield.md R104). -/
def execBfFitsU (w : Byte) (s : State) : Host.Outcome State Fault Refusal :=
  runCommand (bodyBfFitsU w) s

/-- The completion step of BF_FITSS (40_bitfield.md R105). -/
def execBfFitsS (w : Byte) (s : State) : Host.Outcome State Fault Refusal :=
  runCommand (bodyBfFitsS w) s

/-- The completion step of BF_GETU (40_bitfield.md R106). -/
def execBfGetU (w l : Byte) (s : State) : Host.Outcome State Fault Refusal :=
  runCommand (bodyBfGetU w l) s

/-- The completion step of BF_GETS (40_bitfield.md R107). -/
def execBfGetS (w l : Byte) (s : State) : Host.Outcome State Fault Refusal :=
  runCommand (bodyBfGetS w l) s

/-- The completion step of BF_SETU (40_bitfield.md R108). -/
def execBfSetU (w l : Byte) (s : State) : Host.Outcome State Fault Refusal :=
  runCommand (bodyBfSetU w l) s

/-- The completion step of BF_SETS (40_bitfield.md R109). -/
def execBfSetS (w l : Byte) (s : State) : Host.Outcome State Fault Refusal :=
  runCommand (bodyBfSetS w l) s

end Sys2Proof.Machine
end

