-- ==== Sys2Proof/Machine/Codeword.lean ====
section
/-! DEFINITION. The codeword packer: PACK, UNPACK (44_codeword.md R180 to R182), built on the
bit-field functions. -/

namespace Sys2Proof.Machine

/-- Inserts the six fields into a zero word in the order a, b, c, d, pb_index, pr_index; the first
that does not fit raises (44_codeword.md R181). -/
def packFields (s : State) : Except CoreError Word64 := do
  let w ← setU 0 6 26 (s.cwA.setWidth 64)
  let w ← setS w 6 20 (s.cwB.signExtend 64)
  let w ← setS w 6 14 (s.cwC.signExtend 64)
  let w ← setS w 6 8 (s.cwD.signExtend 64)
  let w ← setU w 4 4 (s.cwPb.setWidth 64)
  setU w 4 0 (s.cwPr.setWidth 64)

/-- PACK (44_codeword.md R181). -/
def bodyPack (s : State) : Except CoreError State :=
  (packFields s).map fun w => { s with word := low32 w }

/-- UNPACK (44_codeword.md R182). -/
def bodyUnpack (s : State) : Except CoreError State :=
  let w : Word64 := s.word.setWidth 64
  .ok { s with
    cwA := (getU w 6 26).setWidth 32
    cwB := (getS w 6 20).setWidth 32
    cwC := (getS w 6 14).setWidth 32
    cwD := (getS w 6 8).setWidth 32
    cwPb := (getU w 4 4).setWidth 32
    cwPr := (getU w 4 0).setWidth 32 }

/-- The completion step of PACK (44_codeword.md R181). -/
def execPack (s : State) : Host.Outcome State Fault Refusal := runCommand bodyPack s

/-- The completion step of UNPACK (44_codeword.md R182). -/
def execUnpack (s : State) : Host.Outcome State Fault Refusal := runCommand bodyUnpack s

end Sys2Proof.Machine
end

