-- ==== Sys2Proof/Machine/ColourSpace.lean ====
section
/-! DEFINITION. The colour-space converter: CC_FWD, CC_INV, CC_FWD4, CC_INV4 (41_colorspace.md R120 to
R125), in exact rational arithmetic. -/

namespace Sys2Proof.Machine

/-- One LumaChroma value: the three components of a sample (10_state.md R45). -/
structure Sample where
  y : Rat
  pb : Rat
  pr : Rat
deriving DecidableEq, Repr

/-- `rgb_to_ypbpr(R, G, B, D)` (41_colorspace.md R120), `D` not 0. -/
def rgbToYpbpr (p : Pixel) (d : Half) : Sample :=
  let r : Rat := (p.r.toNat : Rat) / (d.toNat : Rat)
  let g : Rat := (p.g.toNat : Rat) / (d.toNat : Rat)
  let b : Rat := (p.b.toNat : Rat) / (d.toNat : Rat)
  { y := 299 / 1000 * r + 587 / 1000 * g + 114 / 1000 * b
    pb := -168736 / 1000000 * r - 331264 / 1000000 * g + 5 / 10 * b
    pr := 5 / 10 * r - 418688 / 1000000 * g - 81312 / 1000000 * b }

/-- `clamp(round(200 * x), 0, 200)` as a channel (41_colorspace.md R121). -/
def outChannel (x : Rat) : Half :=
  BitVec.ofInt 16 (clampInt (roundHalfAway ((outDenom : Rat) * x)) 0 outDenom)

/-- `ypbpr_to_rgb(Y, Pb, Pr)` (41_colorspace.md R121). -/
def ypbprToRgb (v : Sample) : Pixel where
  r := outChannel (v.y + 1402 / 1000 * v.pr)
  g := outChannel (v.y - 344136 / 1000000 * v.pb - 714136 / 1000000 * v.pr)
  b := outChannel (v.y + 1772 / 1000 * v.pb)

/-- The sample of slot `n`. -/
def State.sample (s : State) (n : Slot) : Sample := ⟨s.y.get n, s.pb.get n, s.pr.get n⟩

/-- Writes the sample of slot `n`: `Y[n]`, `PB[n]`, `PR[n]`. -/
def State.setSample (s : State) (n : Slot) (v : Sample) : State :=
  { s with y := s.y.set n v.y, pb := s.pb.set n v.pb, pr := s.pr.set n v.pr }

/-- One lane of the forward conversion: slot `n`'s pixel to slot `n`'s sample. -/
def forwardLane (d : Half) (n : Slot) (s : State) : State :=
  s.setSample n (rgbToYpbpr (s.pix.get n) d)

/-- One lane of the inverse conversion: slot `n`'s sample to slot `n`'s pixel registers. -/
def inverseLane (n : Slot) (s : State) : State :=
  { s with pix := s.pix.set n (ypbprToRgb (s.sample n)) }

/-- CC_FWD (41_colorspace.md R122). -/
def bodyCcFwd (n : Slot) (s : State) : Except CoreError State :=
  if s.denom = 0 then .error .denomZero else .ok (forwardLane s.denom n s)

/-- CC_INV (41_colorspace.md R123). -/
def bodyCcInv (n : Slot) (s : State) : Except CoreError State := .ok (inverseLane n s)

/-- CC_FWD4 (41_colorspace.md R124): DENOM is checked before any lane is written. -/
def bodyCcFwd4 (s : State) : Except CoreError State :=
  if s.denom = 0 then .error .denomZero
  else .ok (forwardLane s.denom 3 (forwardLane s.denom 2 (forwardLane s.denom 1
    (forwardLane s.denom 0 s))))

/-- CC_INV4 (41_colorspace.md R125). -/
def bodyCcInv4 (s : State) : Except CoreError State :=
  .ok (inverseLane 3 (inverseLane 2 (inverseLane 1 (inverseLane 0 s))))

/-- The completion step of CC_FWD (41_colorspace.md R122). -/
def execCcFwd (n : Slot) (s : State) : Host.Outcome State Fault Refusal :=
  runCommand (bodyCcFwd n) s

/-- The completion step of CC_INV (41_colorspace.md R123). -/
def execCcInv (n : Slot) (s : State) : Host.Outcome State Fault Refusal :=
  runCommand (bodyCcInv n) s

/-- The completion step of CC_FWD4 (41_colorspace.md R124). -/
def execCcFwd4 (s : State) : Host.Outcome State Fault Refusal := runCommand bodyCcFwd4 s

/-- The completion step of CC_INV4 (41_colorspace.md R125). -/
def execCcInv4 (s : State) : Host.Outcome State Fault Refusal := runCommand bodyCcInv4 s

end Sys2Proof.Machine
end

