-- ==== Sys2Proof/Machine/Transform.lean ====
section
/-! DEFINITION. The 4-point luma transform: DCT_FWD, DCT_INV (43_transform.md R160 to R165). -/

namespace Sys2Proof.Machine

/-- `map(v) = round(-30 + 100 * (clamp(v, -0.3, 0.3) + 0.3))` (43_transform.md R160). -/
def mapCoeff (v : Rat) : Int :=
  roundHalfAway (-30 + acScale * (clampRat v (-acLimit) acLimit + acLimit))

/-- `unmap(n) = -0.3 + (0.6 / 60) * (n + 30)` (43_transform.md R161). -/
def unmapCoeff (n : Int) : Rat := -acLimit + 6 / 10 / 60 * ((n : Rat) + 30)

/-- The integer codes of a block's luma. -/
structure LumaCode where
  a : Int
  b : Int
  c : Int
  d : Int
deriving DecidableEq, Repr

/-- `fwd(y1, y2, y3, y4)` (43_transform.md R162), slot n holding y(n+1) (R164). -/
def lumaForward (y : Quad Rat) : LumaCode where
  a := clampInt (roundHalfAway ((aScale : Rat) * (y.s0 + y.s1 + y.s2 + y.s3) / 4)) 0 aScale
  b := mapCoeff ((y.s3 + y.s2 - y.s1 - y.s0) / 4)
  c := mapCoeff ((y.s3 - y.s2 + y.s1 - y.s0) / 4)
  d := mapCoeff ((y.s3 - y.s2 - y.s1 + y.s0) / 4)

/-- `inv(a, b, c, d)` (43_transform.md R163), without clamp or rounding. -/
def lumaInverse (k : LumaCode) : Quad Rat :=
  let a' : Rat := (k.a : Rat) / (aScale : Rat)
  let b' := unmapCoeff k.b
  let c' := unmapCoeff k.c
  let d' := unmapCoeff k.d
  { s0 := a' - b' - c' + d'
    s1 := a' - b' + c' - d'
    s2 := a' + b' - c' - d'
    s3 := a' + b' + c' + d' }

/-- The luma codes the codeword registers hold: CW_A as u_32, CW_B, CW_C, CW_D as s_32
(43_transform.md R165). -/
def State.lumaCode (s : State) : LumaCode :=
  ⟨s.cwA.toNat, s.cwB.toInt, s.cwC.toInt, s.cwD.toInt⟩

/-- DCT_FWD (43_transform.md R164). -/
def bodyDctFwd (s : State) : Except CoreError State :=
  let k := lumaForward s.y
  .ok { s with cwA := toReg k.a, cwB := toReg k.b, cwC := toReg k.c, cwD := toReg k.d }

/-- DCT_INV (43_transform.md R165). -/
def bodyDctInv (s : State) : Except CoreError State := .ok { s with y := lumaInverse s.lumaCode }

/-- The completion step of DCT_FWD (43_transform.md R164). -/
def execDctFwd (s : State) : Host.Outcome State Fault Refusal := runCommand bodyDctFwd s

/-- The completion step of DCT_INV (43_transform.md R165). -/
def execDctInv (s : State) : Host.Outcome State Fault Refusal := runCommand bodyDctInv s

end Sys2Proof.Machine
end

