-- ==== Sys2Proof/Machine/Block.lean ====
section
/-! DEFINITION. Block sequencing: BLK_START, BLK_NEXT, ENC_BLOCK, DEC_BLOCK, NOP (45_block.md R201,
R204 to R208). -/

namespace Sys2Proof.Machine

/-- A dimension trimmed to an even value: `W - (W mod 2)` (45_block.md R201). -/
def trim (n : Nat) : Nat := n - n % 2

/-- NOP (45_block.md R208). -/
def bodyNop (s : State) : Except CoreError State := .ok s

/-- BLK_START (45_block.md R204). -/
def bodyBlkStart (s : State) : Except CoreError State :=
  let tw := trim s.frameW.toNat
  let th := trim s.frameH.toNat
  .ok { s with
    geomTw := BitVec.ofNat 16 tw, geomTh := BitVec.ofNat 16 th
    bposCol := 0, bposRow := 0
    bend := decide (tw = 0 ∨ th = 0) }

/-- BLK_NEXT (45_block.md R205). -/
def bodyBlkNext (s : State) : Except CoreError State :=
  .ok <|
    if s.bend then s
    else if s.bposCol.toNat + 1 < s.geomTw.toNat / 2 then { s with bposCol := s.bposCol + 1 }
    else if s.bposRow.toNat + 1 < s.geomTh.toNat / 2 then
      { s with bposCol := 0, bposRow := s.bposRow + 1 }
    else { s with bend := true }

/-- ENC_BLOCK (45_block.md R206): each step reads the state the previous steps wrote. The check of
DENOM is CC_FWD4's own. -/
def bodyEncBlock (s : State) : Except CoreError State := do
  let s ← bodyCcFwd4 s
  let s ← bodyCqFwd s
  let s ← bodyDctFwd s
  bodyPack s

/-- DEC_BLOCK (45_block.md R207). -/
def bodyDecBlock (s : State) : Except CoreError State := do
  let s ← bodyUnpack s
  let s ← bodyCqInv s
  let s ← bodyDctInv s
  bodyCcInv4 s

/-- The completion step of NOP (45_block.md R208). -/
def execNop (s : State) : Host.Outcome State Fault Refusal := runCommand bodyNop s

/-- The completion step of BLK_START (45_block.md R204). -/
def execBlkStart (s : State) : Host.Outcome State Fault Refusal := runCommand bodyBlkStart s

/-- The completion step of BLK_NEXT (45_block.md R205). -/
def execBlkNext (s : State) : Host.Outcome State Fault Refusal := runCommand bodyBlkNext s

/-- The completion step of ENC_BLOCK (45_block.md R206). -/
def execEncBlock (s : State) : Host.Outcome State Fault Refusal := runCommand bodyEncBlock s

/-- The completion step of DEC_BLOCK (45_block.md R207). -/
def execDecBlock (s : State) : Host.Outcome State Fault Refusal := runCommand bodyDecBlock s

end Sys2Proof.Machine
end

