-- ==== Sys2Proof/Machine/Dispatch.lean ====
section
/-! DEFINITION. What each command does at its completion: one arm per command
(70_reset_and_hazards.md R274). -/

namespace Sys2Proof.Machine

def exec (i : Instr) (s : State) : Host.Outcome State Fault Refusal :=
  match i with
  | .nop => Sys2Proof.Machine.execNop s
  | .ccFwd n => Sys2Proof.Machine.execCcFwd n s
  | .ccInv n => Sys2Proof.Machine.execCcInv n s
  | .ccFwd4 => Sys2Proof.Machine.execCcFwd4 s
  | .ccInv4 => Sys2Proof.Machine.execCcInv4 s
  | .dctFwd => Sys2Proof.Machine.execDctFwd s
  | .dctInv => Sys2Proof.Machine.execDctInv s
  | .cqFwd => Sys2Proof.Machine.execCqFwd s
  | .cqInv => Sys2Proof.Machine.execCqInv s
  | .pack => Sys2Proof.Machine.execPack s
  | .unpack => Sys2Proof.Machine.execUnpack s
  | .encBlock => Sys2Proof.Machine.execEncBlock s
  | .decBlock => Sys2Proof.Machine.execDecBlock s
  | .bfFitsU w => Sys2Proof.Machine.execBfFitsU w s
  | .bfFitsS w => Sys2Proof.Machine.execBfFitsS w s
  | .bfGetU w l => Sys2Proof.Machine.execBfGetU w l s
  | .bfGetS w l => Sys2Proof.Machine.execBfGetS w l s
  | .bfSetU w l => Sys2Proof.Machine.execBfSetU w l s
  | .bfSetS w l => Sys2Proof.Machine.execBfSetS w l s
  | .blkStart => Sys2Proof.Machine.execBlkStart s
  | .blkNext => Sys2Proof.Machine.execBlkNext s

end Sys2Proof.Machine
end

