-- ==== Sys2Proof/Machine/Step.lean ====
section
/-! DEFINITION. One step of the core: the completion of the pending command where no cycle of its LAT
is left, else one bus cycle (log 1, log 2). -/

namespace Sys2Proof.Machine

/-- One step (70_reset_and_hazards.md R274; 20_memory.md R67). -/
def step (s : State) : Host.Outcome State Fault Refusal :=
  match s.completing with
  | none => .next (busCycle s)
  | some v =>
    match decode v with
    | .ok i => exec i s
    | .error _ => .fault (.pendingNotACommand v)

/-- The state in which the very next step runs the command whose table bits are `w`: the core has
just accepted that word, and no cycle of LAT is left (30_encoding.md R87 case 4; log 14). -/
def State.withFetchWord (s : State) (nbits w : Nat) : State := s.acceptedNow (tableWord nbits w)

end Sys2Proof.Machine
end

