-- ==== Sys2Proof/Machine/Stream.lean ====
section
/-! DEFINITION. The compressed stream as the host writes and reads it (20_memory.md R70, R71). The core
itself moves no stream; these functions say what the host does with WORD. -/

namespace Sys2Proof.Machine

/-- The stream bytes of a packed word, most significant byte first: byte k is
`w[31-8k : 24-8k]` (20_memory.md R70). -/
def wordBytes (w : Word32) : List Byte :=
  [w.extractLsb' 24 8, w.extractLsb' 16 8, w.extractLsb' 8 8, w.extractLsb' 0 8]

/-- `w = (B0 << 24) | (B1 << 16) | (B2 << 8) | B3` (20_memory.md R70). -/
def wordOfBytes (b0 b1 b2 b3 : Byte) : Word32 :=
  (b0.setWidth 32 <<< 24) ||| (b1.setWidth 32 <<< 16) ||| (b2.setWidth 32 <<< 8) ||| b3.setWidth 32

/-- The body of a compressed stream: its words in order, each most significant byte first
(20_memory.md R70, R71). -/
def streamBytes (ws : List Word32) : List Byte := ws.flatMap wordBytes

/-- The words of a stream body; a rest of fewer than four bytes is no word (the host rejects such a
body, 45_block.md R212). -/
def streamWords : List Byte → List Word32
  | b0 :: b1 :: b2 :: b3 :: rest => wordOfBytes b0 b1 b2 b3 :: streamWords rest
  | _ => []

/-- The position of the codeword of block (i, j) in the body: `j * (TW/2) + i` (20_memory.md R71). -/
def codewordPosition (tw i j : Nat) : Nat := j * (tw / 2) + i

end Sys2Proof.Machine
end

