-- ==== Sys2Proof/Machine/Frame.lean ====
section
/-! DEFINITION. The frame as the host processes it with the core: block demux and mux, the codeword
grid, and the two frame procedures (45_block.md R200 to R203, R210, R211). No step of the core uses
this file (log 16). -/

namespace Sys2Proof.Machine

/-- A pixel grid: the pixel at a column and a row. -/
abbrev PixelGrid := Nat → Nat → Pixel

/-- The demux of block (i, j): which pixel goes to which slot (45_block.md R200). -/
def blockPixels (p : PixelGrid) (i j : Nat) : Quad Pixel :=
  ⟨p (slotColumn i 0) (slotRow j 0), p (slotColumn i 1) (slotRow j 1),
   p (slotColumn i 2) (slotRow j 2), p (slotColumn i 3) (slotRow j 3)⟩

/-- The blocks of a trimmed frame, row-major: `TW/2` columns and `TH/2` rows (45_block.md R202;
20_memory.md R71). Each is (block column, block row). -/
def frameBlocks (tw th : Nat) : List (Nat × Nat) :=
  (List.range (th / 2)).flatMap fun j => (List.range (tw / 2)).map fun i => (i, j)

/-- The state after a command completes; the core stops on none. -/
def afterCommand (i : Instr) (s : State) : State :=
  match exec i s with
  | .next t => t
  | .fault _ => s
  | .refused _ => s

/-- One block of `compress_frame`: the pixel registers and DENOM are written, then ENC_BLOCK
(45_block.md R210). -/
def encodeBlock (d : Half) (px : Quad Pixel) (s : State) : State :=
  afterCommand .encBlock { s with pix := px, denom := d }

/-- The words of the blocks in order, each the WORD that ENC_BLOCK leaves (45_block.md R210). -/
def encodeBlocks (p : PixelGrid) (d : Half) : List (Nat × Nat) → State → List Word32
  | [], _ => []
  | (i, j) :: rest, s =>
    let t := encodeBlock d (blockPixels p i j) s
    t.word :: encodeBlocks p d rest t

/-- What `compress_frame` returns (45_block.md R210). -/
structure CompressedFrame where
  tw : Nat
  th : Nat
  words : List Word32
deriving DecidableEq, Repr

/-- `compress_frame(P, W, H, D)` on a core in state `s` (45_block.md R210). -/
def compressFrame (p : PixelGrid) (w h : Nat) (d : Half) (s : State) : CompressedFrame where
  tw := trim w
  th := trim h
  words := encodeBlocks p d (frameBlocks (trim w) (trim h)) s

/-- One block of `decompress_frame`: WORD is written, then DEC_BLOCK (45_block.md R211). -/
def decodeBlock (w : Word32) (s : State) : State :=
  afterCommand .decBlock { s with word := w }

/-- The mux of block (i, j): where each slot's pixel goes, as (column, row, pixel)
(45_block.md R203). -/
def muxPixels (i j : Nat) (px : Quad Pixel) : List (Nat × Nat × Pixel) :=
  [(slotColumn i 0, slotRow j 0, px.s0), (slotColumn i 1, slotRow j 1, px.s1),
   (slotColumn i 2, slotRow j 2, px.s2), (slotColumn i 3, slotRow j 3, px.s3)]

/-- The output pixels of the blocks in order (45_block.md R211). -/
def decodeBlocks (tw : Nat) (words : List Word32) :
    List (Nat × Nat) → State → List (Nat × Nat × Pixel)
  | [], _ => []
  | (i, j) :: rest, s =>
    let t := decodeBlock (words.getD (codewordPosition tw i j) 0) s
    muxPixels i j t.pix ++ decodeBlocks tw words rest t

/-- `decompress_frame(TW, TH, words)` on a core in state `s`, where
`len(words) == (TW/2) * (TH/2)` (45_block.md R211): the written pixels as (column, row, pixel). -/
def decompressFrame (tw th : Nat) (words : List Word32) (s : State) : List (Nat × Nat × Pixel) :=
  decodeBlocks tw words (frameBlocks tw th) s

end Sys2Proof.Machine
end

