-- ==== Sys2Proof/Machine/HostProgram.lean ====
section
/-! DEFINITION. The notation of host programs (30_encoding.md R88, R89) and a host that runs one beside
the core. The host is outside the core: no step of the core uses this file (log 15). -/

namespace Sys2Proof.Machine

/-- One statement of a host program (30_encoding.md R88). A host variable and a label are numbers; a
label is the index of the statement it names. -/
inductive HostStmt where
  /-- `sw REG, value`. -/
  | sw (r : Reg) (v : Word32)
  /-- `lw REG -> t`. -/
  | lw (r : Reg) (t : Nat)
  /-- `and t, mask`. -/
  | mask (t : Nat) (m : Word32)
  /-- `beq t, value, label`. -/
  | beq (t : Nat) (v : Word32) (label : Nat)
  /-- `bne t, value, label`. -/
  | bne (t : Nat) (v : Word32) (label : Nat)
  /-- `b label`. -/
  | jump (label : Nat)
deriving DecidableEq, Repr

/-- `cmd MNEMONIC ...`: `sw CMD, enc` (30_encoding.md R88). -/
def cmdStmt (i : Instr) : HostStmt := .sw .cmd (encode i)

/-- `wait` at statement `at_`, using variable `t` (30_encoding.md R89). -/
def waitStmts (at_ t : Nat) : List HostStmt := [.lw .status t, .mask t 1, .bne t 0 at_]

/-- `sw64 BF_WORD, v` (30_encoding.md R89). -/
def sw64BfWord (v : Word64) : List HostStmt := [.sw .bfWordLo (low32 v), .sw .bfWordHi (high32 v)]

/-- `sw64 BF_VALUE, v` (30_encoding.md R89). -/
def sw64BfValue (v : Word64) : List HostStmt :=
  [.sw .bfValueLo (low32 v), .sw .bfValueHi (high32 v)]

/-- `lw64 BF_RESULT -> t` with its halves in variables `t0`, `t1`; t = {t1, t0} (30_encoding.md
R89). -/
def lw64BfResult (t0 t1 : Nat) : List HostStmt := [.lw .bfResultLo t0, .lw .bfResultHi t1]

/-- The three writes of one pixel of `ldblk` (30_encoding.md R89). -/
def loadPixel (n : Slot) (p : Pixel) : List HostStmt :=
  [.sw (.pix n .r) (p.r.setWidth 32), .sw (.pix n .g) (p.g.setWidth 32),
   .sw (.pix n .b) (p.b.setWidth 32)]

/-- `ldblk p0, p1, p2, p3`: twelve writes, n = 0..3, c = R, G, B (30_encoding.md R89). -/
def loadBlock (p : Quad Pixel) : List HostStmt :=
  loadPixel 0 p.s0 ++ loadPixel 1 p.s1 ++ loadPixel 2 p.s2 ++ loadPixel 3 p.s3

/-- `srst` (30_encoding.md R89). -/
def srstStmt : HostStmt := .sw .ctrl 0x80000000

/-- `clrdone` (30_encoding.md R89). -/
def clrdoneStmt : HostStmt := .sw .status 0x2

/-- A host program at work beside a core. -/
structure HostRun where
  prog : List HostStmt
  /-- The statement the host is at. -/
  at_ : Nat
  /-- The host's variables that have been written, the newest first. -/
  vars : List (Nat × Word32)
  core : State
deriving DecidableEq, Repr

/-- A host variable; one not yet written reads 0 (DESIGN CHOICE, log 15). -/
def HostRun.var (h : HostRun) (t : Nat) : Word32 := (h.vars.lookup t).getD 0

/-- The value the core's latest read response carries. -/
def responseData : BusResponse → Word32
  | .readData v => v
  | .readError v => v
  | .noAccess => 0
  | .writeDone => 0
  | .writeError => 0

/-- What a step of the core leaves beside the host. -/
def stepBeside (core : State) (after : State → HostRun) :
    Host.Outcome HostRun Fault Refusal :=
  match step core with
  | .next t => .next (after t)
  | .fault f => .fault f
  | .refused r => .refused r

/-- Presents one event to the core. Where the pending command completes now, that completion is the
step and the host presents the event again. -/
def HostRun.present (h : HostRun) (e : BusEvent) (after : State → HostRun) :
    Host.Outcome HostRun Fault Refusal :=
  if h.core.completing = none then stepBeside { h.core with bus := [e] } after
  else stepBeside { h.core with bus := [] } fun t => { h with core := t }

/-- One step of the host and the core: the statement's access, or a statement of the host's own, or
an idle cycle after the program's end. `base` is CORE_BASE (20_memory.md R60). -/
def HostRun.step (base : Nat) (h : HostRun) : Host.Outcome HostRun Fault Refusal :=
  match h.prog[h.at_]? with
  | none => h.present .idle fun t => { h with core := t }
  | some (.sw r v) =>
    h.present (writeAt base (base + r.offset) 4 v) fun t => { h with at_ := h.at_ + 1, core := t }
  | some (.lw r t) =>
    h.present (readAt base (base + r.offset) 4) fun c =>
      { h with at_ := h.at_ + 1, vars := (t, responseData c.resp) :: h.vars, core := c }
  | some (.mask t m) =>
    .next { h with at_ := h.at_ + 1, vars := (t, h.var t &&& m) :: h.vars }
  | some (.beq t v label) => .next { h with at_ := if h.var t = v then label else h.at_ + 1 }
  | some (.bne t v label) => .next { h with at_ := if h.var t = v then h.at_ + 1 else label }
  | some (.jump label) => .next { h with at_ := label }

end Sys2Proof.Machine
end

