-- ==== Sys2Proof/Safety.lean ====
section
/-! DEFINITION. What counts as a state the core can be in, and as a safe step: the terms the claims
use. -/

namespace Sys2Proof.Machine

/-- The command tracking agrees with STATUS and CMD: `pending` is not none exactly when BUSY = 1
(10_state.md R46), it is the word CMD holds (R25), that word is a command (30_encoding.md R87), DONE
is 0 from acceptance to completion (10_state.md R24), and the only error that can appear while BUSY = 1
is CMD_WHILE_BUSY (60_exceptions.md R243). No cycle of LAT is counted when none is pending (log 2). -/
structure TrackingAgrees (s : State) : Prop where
  busy_iff : s.busy = s.pending.isSome
  holds_cmd : ∀ v, s.pending = some v → s.cmd = v
  decodes : ∀ v, s.pending = some v → ∃ i, decode v = .ok i
  not_done : s.busy = true → s.done = false
  error : s.busy = true → s.err = none ∨ s.err = some .cmdWhileBusy
  no_wait : s.pending = none → s.wait = 0

/-- The block walk is where it can be: TW and TH are even (10_state.md R36), and while BEND = 0 the
position names a block of the grid (10_state.md R37, R38). The position always fits the greatest grid,
32767 by 32767 (10_state.md R39, R41). -/
structure WalkInGrid (s : State) : Prop where
  tw_even : s.geomTw.toNat % 2 = 0
  th_even : s.geomTh.toNat % 2 = 0
  col_lt : s.bend = false → s.bposCol.toNat < s.geomTw.toNat / 2
  row_lt : s.bend = false → s.bposRow.toNat < s.geomTh.toNat / 2
  col_fits : s.bposCol.toNat < 32767
  row_fits : s.bposRow.toNat < 32767

/-- The invariant of the core. -/
structure Consistent (s : State) : Prop where
  tracking : TrackingAgrees s
  walk : WalkInGrid s

/-- A step is safe when it answers a next state. -/
def StepsOn (s : State) : Prop := ∃ t, step s = .next t

/-- The operand and result registers, the geometry and the sample file are the same in two states:
everything a command reads or writes, but for the life cycle's own STATUS, CMD and `pending`. -/
structure SameData (s t : State) : Prop where
  denom : t.denom = s.denom
  pix : t.pix = s.pix
  cwA : t.cwA = s.cwA
  cwB : t.cwB = s.cwB
  cwC : t.cwC = s.cwC
  cwD : t.cwD = s.cwD
  cwPb : t.cwPb = s.cwPb
  cwPr : t.cwPr = s.cwPr
  word : t.word = s.word
  bfWordLo : t.bfWordLo = s.bfWordLo
  bfWordHi : t.bfWordHi = s.bfWordHi
  bfValueLo : t.bfValueLo = s.bfValueLo
  bfValueHi : t.bfValueHi = s.bfValueHi
  bfResultLo : t.bfResultLo = s.bfResultLo
  bfResultHi : t.bfResultHi = s.bfResultHi
  frameW : t.frameW = s.frameW
  frameH : t.frameH = s.frameH
  geomTw : t.geomTw = s.geomTw
  geomTh : t.geomTh = s.geomTh
  bposCol : t.bposCol = s.bposCol
  bposRow : t.bposRow = s.bposRow
  bend : t.bend = s.bend
  y : t.y = s.y
  pb : t.pb = s.pb
  pr : t.pr = s.pr
  chromaTable : t.chromaTable = s.chromaTable

/-- The event is no reset: neither `rst` nor a defined write to CTRL with bit 31 = 1
(70_reset_and_hazards.md R270, R271). -/
def NoReset (e : BusEvent) : Prop :=
  match e with
  | .hardReset => False
  | .write off size v => ¬(off = 0x04 ∧ size = 4 ∧ v.getLsbD 31 = true)
  | .idle => True
  | .read _ _ => True

/-! ### The rules' own terms, said without the functions that compute them -/

/-- The state a raised error leaves (60_exceptions.md R242): no destination is written, ERR takes the
code if it was 0, DONE is 1, BUSY is 0, none pending. -/
def erred (s : State) (c : CoreError) : State :=
  { s with
    err := if s.err = none then some c else s.err, busy := false, done := true, pending := none }

/-- BF_WORD as a number (10_state.md R32). -/
def wordNat (s : State) : Nat := s.bfWordHi.toNat * 2 ^ 32 + s.bfWordLo.toNat

/-- BF_VALUE as u_64 (10_state.md R33). -/
def valueNat (s : State) : Nat := s.bfValueHi.toNat * 2 ^ 32 + s.bfValueLo.toNat

/-- BF_VALUE as s_64 (10_state.md R33; 00_scope.md R7). -/
def valueInt (s : State) : Int :=
  if valueNat s < 2 ^ 63 then (valueNat s : Int) else (valueNat s : Int) - 2 ^ 64

/-- `fits_u` on a number (40_bitfield.md R102). -/
def FitsUnsigned (v w : Nat) : Prop := w ≠ 0 ∧ (w = 64 ∨ v < 2 ^ w)

/-- `fits_s` on a number (40_bitfield.md R103). -/
def FitsSigned (v : Int) (w : Nat) : Prop :=
  w ≠ 0 ∧ (w = 64 ∨ (-2 ^ (w - 1) ≤ v ∧ v ≤ 2 ^ (w - 1) - 1))

/-- `k` is `x` rounded to the nearest integer, halves away from zero (00_scope.md R9). -/
def IsRounded (x : Rat) (k : Int) : Prop :=
  (0 ≤ x → (k : Rat) - 1 / 2 ≤ x ∧ x < (k : Rat) + 1 / 2) ∧
  (x < 0 → (k : Rat) - 1 / 2 < x ∧ x ≤ (k : Rat) + 1 / 2)

/-- `k = clamp(round(x), lo, hi)` (00_scope.md R9, R10). -/
def IsClampedRounding (x : Rat) (lo hi k : Int) : Prop :=
  ∃ m : Int, IsRounded x m ∧ k = max lo (min hi m)

/-- The sample of a pixel at scale `d`, each formula over one denominator (41_colorspace.md R120). -/
def IsForwardSample (p : Pixel) (d : Half) (y pb pr : Rat) : Prop :=
  y * (1000 * d.toNat) = 299 * p.r.toNat + 587 * p.g.toNat + 114 * p.b.toNat ∧
  pb * (1000000 * d.toNat) = 500000 * p.b.toNat - 168736 * p.r.toNat - 331264 * p.g.toNat ∧
  pr * (1000000 * d.toNat) = 500000 * p.r.toNat - 418688 * p.g.toNat - 81312 * p.b.toNat

/-- The pixel of a sample at scale 200 (41_colorspace.md R121). -/
def IsInversePixel (y pb pr : Rat) (p : Pixel) : Prop :=
  IsClampedRounding (200 * (y + 701 / 500 * pr)) 0 200 p.r.toNat ∧
  IsClampedRounding (200 * (y - 43017 / 125000 * pb - 89267 / 125000 * pr)) 0 200 p.g.toNat ∧
  IsClampedRounding (200 * (y + 443 / 250 * pb)) 0 200 p.b.toNat

/-- `k` is the least index whose entry is nearest to `x` (42_chroma_quant.md R141). -/
def IsNearestIndex (t : ChromaTable) (x : Rat) (k : Nat) : Prop :=
  k < 16 ∧ (∀ j < 16, |x - t.toList.getD k 0| ≤ |x - t.toList.getD j 0|) ∧
  ∀ i < k, ∃ j < 16, |x - t.toList.getD j 0| < |x - t.toList.getD i 0|

/-- `k` is the code of the detail coefficient `v`: `round(100 * clamp(v, -0.3, 0.3))`
(43_transform.md R160). -/
def IsDetailCode (v : Rat) (k : Int) : Prop :=
  IsRounded (100 * max (-3 / 10) (min (3 / 10) v)) k

/-- The codeword registers hold fields in their ranges (44_codeword.md R181). -/
def CodewordInRange (s : State) : Prop :=
  s.cwA.toNat ≤ 63 ∧ (-32 ≤ s.cwB.toInt ∧ s.cwB.toInt ≤ 31) ∧
  (-32 ≤ s.cwC.toInt ∧ s.cwC.toInt ≤ 31) ∧ (-32 ≤ s.cwD.toInt ∧ s.cwD.toInt ≤ 31) ∧
  s.cwPb.toNat ≤ 15 ∧ s.cwPr.toNat ≤ 15

/-- The registers a bus write stores into, with the bits it can change (the RW fields of 10_state.md
R26 to R35). CTRL, STATUS and CMD, whose writes have side effects, are not among them. -/
def storableBits : Reg → Option Word32
  | .denom => some 0x0000FFFF
  | .pix _ _ => some 0x0000FFFF
  | .cwA => some 0xFFFFFFFF
  | .cwB => some 0xFFFFFFFF
  | .cwC => some 0xFFFFFFFF
  | .cwD => some 0xFFFFFFFF
  | .cwPb => some 0xFFFFFFFF
  | .cwPr => some 0xFFFFFFFF
  | .word => some 0xFFFFFFFF
  | .bfWordLo => some 0xFFFFFFFF
  | .bfWordHi => some 0xFFFFFFFF
  | .bfValueLo => some 0xFFFFFFFF
  | .bfValueHi => some 0xFFFFFFFF
  | .frameW => some 0x0000FFFF
  | .frameH => some 0x0000FFFF
  | .id | .ctrl | .status | .cmd => none
  | .bfResultLo | .bfResultHi | .geom | .bpos | .bstat | .nblk | .cwidx | .pxy _ => none

/-- The registers that are RO as a whole (20_memory.md R61). -/
def isReadOnly (r : Reg) : Bool :=
  match r with
  | .id | .bfResultLo | .bfResultHi | .geom | .bpos | .bstat | .nblk | .cwidx => true
  | .pxy _ => true
  | _ => false

/-- The bits of a register that are reserved or read 0 (the tables of 10_state.md R23 to R38). -/
def zeroBits : Reg → Word32
  | .ctrl => 0xFFFFFFFC
  | .status => 0xFFFFFE0C
  | .denom => 0xFFFF0000
  | .pix _ _ => 0xFFFF0000
  | .frameW => 0xFFFF0000
  | .frameH => 0xFFFF0000
  | .bstat => 0xFFFFFFFE
  | _ => 0

/-- The value a read returns right after reset (the reset columns of 10_state.md R22 to R41). -/
def resetRead : Reg → Word32
  | .id => 0x43503430
  | .bstat => 0x00000001
  | .pxy n => BitVec.ofNat 32 (n.toNat / 2 * 65536 + n.toNat % 2)
  | _ => 0

/-- Every register reads its reset value, the sample file is 0, none is pending, and `irq` is 0
(10_state.md R48). -/
structure HoldsResetValues (t : State) : Prop where
  reads : ∀ r, readReg t r = resetRead r
  y : t.y = ⟨0, 0, 0, 0⟩
  pb : t.pb = ⟨0, 0, 0, 0⟩
  pr : t.pr = ⟨0, 0, 0, 0⟩
  pending : t.pending = none
  irq : t.irq = false

/-- No command completes in this step: the step is a bus cycle. -/
def BusCycleNext (s : State) : Prop := s.pending = none ∨ s.wait ≠ 0

end Sys2Proof.Machine
end

