-- ==== Sys2Proof/Certificates/Slice0/Obligations.lean ====
section
/-! DEFINITION. The statements for the provers, from the numbered rules of spec/. Each docstring names
the rule it formalises, or says what of the model's own it rests on. -/

open Sys2Proof Sys2Proof.Machine

/-! ### Command words -/

/-- The word of every command decodes to that command (agreement of 30_encoding.md R80 and R86). -/
def Obligations.DecodeOfEncodeIsTheCommand : Prop :=
  ∀ i : Instr, decode (encode i) = .ok i

/-- A word that decodes is the word of the command it decodes to: no bit of a command is dropped
(30_encoding.md R80, R83, R86). -/
def Obligations.DecodedWordIsTheCommandsWord : Prop :=
  ∀ (v : Word32) (i : Instr), decode v = .ok i → encode i = v

/-- 30_encoding.md R83: a word is legal exactly when it matches a row, equivalently when its OPC is
assigned, its RSV is 0 and each unused field is 0; and the patterns are disjoint, so at most one
matches any word (R82). -/
def Obligations.LegalExactlyWhenFieldsAreLegal : Prop :=
  ∀ v : Word32,
    ((∃ i, decode v = .ok i) ↔ ∃ r ∈ opRows, v &&& r.mask = r.matchBits) ∧
    ((∃ r ∈ opRows, v &&& r.mask = r.matchBits) ↔ (CmdFields.ofWord v).legal = true) ∧
    (opRows.filter fun r => r.hits v).length ≤ 1

/-- Words that the spec writes out decode to the commands they stand for (30_encoding.md R80 to R82;
the words stand in 40_bitfield.md, 41_colorspace.md and 95_test_vectors.md). -/
def Obligations.WordsOfTheSpecDecode : Prop :=
  decode 0x00000000 = .ok .nop ∧ decode 0x00000301 = .ok (.ccFwd 3) ∧
  decode 0x00000021 = .ok .cqInv ∧ decode 0x00000010 = .ok .dctFwd ∧
  decode 0x00000030 = .ok .pack ∧ decode 0x00000041 = .ok .decBlock ∧
  decode 0x00060050 = .ok (.bfFitsU 6) ∧ decode 0x14060055 = .ok (.bfSetS 6 20) ∧
  decode 0x00000061 = .ok .blkNext

/-! ### The register window -/

/-- The register map of 20_memory.md R61, read from offset to register and from register to offset, is
one map; every register is at a multiple of 4; a host access to `CORE_BASE + offset(REG)` reaches that
register, and an access that starts outside the window does not reach the core (R60; 30_encoding.md
R88). -/
def Obligations.RegisterMapIsOneMap : Prop :=
  ∀ (off : Byte) (r : Reg) (base addr : Nat),
    (regAt off = some r ↔ r.offset = off.toNat) ∧ r.offset % 4 = 0 ∧ r.offset < 256 ∧
    (∃ o, windowOffset base (base + r.offset) = some o ∧ regAt o = some r) ∧
    ((addr < base ∨ base + 256 ≤ addr) → windowOffset base addr = none)

/-- Undefined accesses (20_memory.md section 2; 60_exceptions.md section 1), in a step in which no
command completes (log 1): any access that is not 4 bytes at a multiple of 4 gets a bus error response
and changes no state of the core, STATUS.ERR among it; a read returns any value, in the model a free
value (DESIGN CHOICE, log 3) of 32 bits whatever the size (DESIGN CHOICE, log 18). -/
def Obligations.UndefinedAccessIsABusError : Prop :=
  ∀ (s : State) (off : Byte) (size : Nat) (v : Word32) (rest : List BusEvent),
    BusCycleNext s → ¬(size = 4 ∧ off.toNat % 4 = 0) →
    (s.bus = .read off size :: rest →
      step s = .next { s with
        bus := rest, wait := s.wait - 1, draws := s.draws + 1
        resp := .readError (Config.freeWord s.draws) }) ∧
    (s.bus = .write off size v :: rest →
      step s = .next { s with bus := rest, wait := s.wait - 1, resp := .writeError })

/-- 20_memory.md R63, in a step in which no command completes (log 1): at a reserved offset of the map
a 4-byte aligned read returns 0 and a write has no effect. -/
def Obligations.ReservedOffsetReadsZeroIgnoresWrites : Prop :=
  ∀ (s : State) (off : Byte) (v : Word32) (rest : List BusEvent),
    BusCycleNext s → off.toNat % 4 = 0 →
    (0x14 ≤ off.toNat ∧ off.toNat ≤ 0x1C ∨ off.toNat = 0x6C ∨
      0x88 ≤ off.toNat ∧ off.toNat ≤ 0x8C ∨ off.toNat = 0xAC ∨ 0xC0 ≤ off.toNat) →
    (s.bus = .read off 4 :: rest →
      step s = .next { s with bus := rest, wait := s.wait - 1, resp := .readData 0 }) ∧
    (s.bus = .write off 4 v :: rest →
      step s = .next { s with bus := rest, wait := s.wait - 1, resp := .writeDone })

/-- 10_state.md R42, the writes in a step in which no command completes (log 1): a write to an RO
register has no effect; a reserved field reads 0; a write to CTRL without bit 31 changes only the IE
bits, a write to STATUS only DONE. -/
def Obligations.OnlyWritableFieldsAreWritten : Prop :=
  ∀ (s : State) (off : Byte) (r : Reg) (v : Word32) (rest : List BusEvent),
    readReg s r &&& zeroBits r = 0 ∧
    (BusCycleNext s → regAt off = some r → s.bus = .write off 4 v :: rest →
      (isReadOnly r = true →
        step s = .next { s with bus := rest, wait := s.wait - 1, resp := .writeDone }) ∧
      (r = .ctrl → v.getLsbD 31 = false →
        step s = .next { s with
          bus := rest, wait := s.wait - 1, resp := .writeDone
          ieDone := v.getLsbD 0, ieErr := v.getLsbD 1 }) ∧
      (r = .status →
        step s = .next { s with
          bus := rest, wait := s.wait - 1, resp := .writeDone
          done := s.done && !v.getLsbD 1 }))

/-- While BUSY = 0, in a step in which no command completes (log 1), a write to a register that only stores changes that register's writable bits, which
then read as written, and no other register, and not the sample file (20_memory.md R66, R67). -/
def Obligations.StoredRegisterReadsBack : Prop :=
  ∀ (s : State) (off : Byte) (r : Reg) (v m : Word32) (rest : List BusEvent),
    BusCycleNext s → s.busy = false → regAt off = some r → storableBits r = some m →
    s.bus = .write off 4 v :: rest →
    ∃ t, step s = .next t ∧ (∀ r', readReg t r' = if r' = r then v &&& m else readReg s r') ∧
      t.y = s.y ∧ t.pb = s.pb ∧ t.pr = s.pr ∧ t.pending = s.pending ∧ t.bus = rest ∧
      t.resp = .writeDone

/-- 30_encoding.md R87, in a step in which no command completes (log 1): the four cases of a 4-byte
write to CMD, and all that changes in each. Of the model's own counters behind LAT (log 2) nothing is
said. -/
def Obligations.IssueFollowsItsFourCases : Prop :=
  ∀ (s : State) (v : Word32) (rest : List BusEvent),
    BusCycleNext s → s.bus = .write 0x0C 4 v :: rest →
    (s.err ≠ none →
      step s = .next { s with bus := rest, wait := s.wait - 1, resp := .writeDone }) ∧
    (s.err = none → s.busy = true →
      step s = .next { s with
        bus := rest, wait := s.wait - 1, resp := .writeDone, err := some .cmdWhileBusy }) ∧
    (s.err = none → s.busy = false → (∀ i, decode v ≠ .ok i) →
      step s = .next { s with
        bus := rest, wait := s.wait - 1, resp := .writeDone
        cmd := v, done := true, err := some .illegalCmd }) ∧
    (∀ i, s.err = none → s.busy = false → decode v = .ok i → ∃ n k : Nat,
      step s = .next { s with
        bus := rest, wait := n, issues := k, resp := .writeDone
        cmd := v, done := false, busy := true, pending := some v })

/-- 70_reset_and_hazards.md R275, in a step in which no command completes (log 1): while BUSY = 1 a write to a register other than CTRL, STATUS and CMD
is dropped without bus error; CTRL and STATUS writes take effect; a CMD write is CMD_WHILE_BUSY, or
ignored in the error state. -/
def Obligations.BusyDropsOperandWrites : Prop :=
  ∀ (s : State) (off : Byte) (r : Reg) (v : Word32) (rest : List BusEvent),
    BusCycleNext s → s.busy = true → regAt off = some r → s.bus = .write off 4 v :: rest →
    (r ≠ .ctrl → r ≠ .status → r ≠ .cmd →
      step s = .next { s with bus := rest, wait := s.wait - 1, resp := .writeDone }) ∧
    (r = .ctrl → v.getLsbD 31 = false →
      step s = .next { s with
        bus := rest, wait := s.wait - 1, resp := .writeDone
        ieDone := v.getLsbD 0, ieErr := v.getLsbD 1 }) ∧
    (r = .ctrl → v.getLsbD 31 = true → ∃ t, step s = .next t ∧ HoldsResetValues t) ∧
    (r = .status →
      step s = .next { s with
        bus := rest, wait := s.wait - 1, resp := .writeDone
        done := s.done && !v.getLsbD 1 }) ∧
    (r = .cmd →
      step s = .next { s with
        bus := rest, wait := s.wait - 1, resp := .writeDone
        err := if s.err = none then some .cmdWhileBusy else s.err })

/-- The read hazard (70_reset_and_hazards.md section 3), in a step in which no command completes (log 1):
while BUSY = 1 a read of a destination of the pending command returns a free value (log 3); a read of
any other register, or of any register while BUSY = 0, returns its value. No read changes the core.
Which registers are destinations is `destinations`; that CWIDX and PXY0-3 read exactly while BLK_NEXT
is in flight is the model's reading of R276 with 45_block.md R205 (DEDUCED, log 6). -/
def Obligations.OnlyABusyReadOfADestinationIsFree : Prop :=
  ∀ (s : State) (off : Byte) (r : Reg) (rest : List BusEvent),
    BusCycleNext s → regAt off = some r → s.bus = .read off 4 :: rest →
    (∀ (v : Word32) (i : Instr), s.busy = true → s.pending = some v → decode v = .ok i →
      (r ∈ destinations i →
        step s = .next { s with
          bus := rest, wait := s.wait - 1, draws := s.draws + 1
          resp := .readData (Config.freeWord s.draws) }) ∧
      (r ∉ destinations i →
        step s = .next { s with
          bus := rest, wait := s.wait - 1, resp := .readData (readReg s r) })) ∧
    (s.busy = false ∨ r = .status ∨ r = .ctrl ∨ r = .cmd →
      step s = .next { s with bus := rest, wait := s.wait - 1, resp := .readData (readReg s r) })

/-! ### Status, interrupt, reset -/

/-- 10_state.md R47: `irq` is `(DONE and IE_DONE) or (ERR != 0 and IE_ERR)`, STATUS.IRQ reads it, and
it is 0 after reset. -/
def Obligations.InterruptLineFollowsDoneAndError : Prop :=
  (∀ s : State,
    (s.irq = true ↔ (s.done = true ∧ s.ieDone = true) ∨ (s.err ≠ none ∧ s.ieErr = true)) ∧
    (readReg s .status).getLsbD 8 = s.irq) ∧
  State.reset.irq = false

/-- What a read of STATUS shows: BUSY, DONE, and in bits 7:4 the error code, 0 exactly when there is no
error (10_state.md R24; 60_exceptions.md R241). -/
def Obligations.StatusShowsBusyDoneAndError : Prop :=
  ∀ s : State,
    (readReg s .status).getLsbD 0 = s.busy ∧ (readReg s .status).getLsbD 1 = s.done ∧
    ((readReg s .status).extractLsb' 4 4 = 0 ↔ s.err = none) ∧
    (readReg s .status).extractLsb' 4 4 =
      (match s.err with
        | none => 0
        | some .invalidWidth => 1
        | some .overflow => 2
        | some .denomZero => 3
        | some .illegalCmd => 4
        | some .cmdWhileBusy => 5
        | some .indexRange => 6)

/-- 10_state.md R48: after reset every register holds the value of its reset column, the sample file
is 0, none is pending and `irq` is 0. -/
def Obligations.ResetStateHoldsResetValues : Prop := HoldsResetValues State.reset

/-- Hard reset (70_reset_and_hazards.md section 1): in every state in which no command completes in this
step (log 1), the reset input gives every piece of the core's state its reset value. That `rst` is one
event, which lands after a completion that is due, is the model's reading (DEDUCED, log 10); that the
accesses to come stay is the model's choice (DESIGN CHOICE, log 8). -/
def Obligations.HardResetRestoresResetValues : Prop :=
  ∀ (s : State) (rest : List BusEvent),
    BusCycleNext s → s.bus = .hardReset :: rest →
    ∃ t, step s = .next t ∧ HoldsResetValues t ∧ t.bus = rest

/-- Soft reset (70_reset_and_hazards.md section 1): in every state in which no command completes in this
step (idle, BUSY with cycles left, error state; the premise is the model's step, log 1), a 4-byte write
to CTRL with bit 31 = 1 resets the core; and besides `rst` nothing else clears STATUS.ERR. That the
write itself is answered as done, and that the accesses to come stay, is the model's choice (DESIGN
CHOICE, log 8). -/
def Obligations.SoftResetIsTheOnlyWayBack : Prop :=
  (∀ (s : State) (v : Word32) (rest : List BusEvent),
    BusCycleNext s → s.bus = .write 0x04 4 v :: rest → v.getLsbD 31 = true →
    ∃ t, step s = .next t ∧ HoldsResetValues t ∧ t.bus = rest ∧ t.resp = .writeDone) ∧
  (∀ s t : State, step s = .next t → s.err ≠ none → t.err ≠ s.err →
    BusCycleNext s ∧ ∃ e rest, s.bus = e :: rest ∧ ¬NoReset e)

/-! ### The life cycle of a command -/

/-- When no cycle of LAT is left, the step is the completion of the pending command: `exec` of the
command its word decodes to, on the state as it is (70_reset_and_hazards.md R274; that LAT is counted
in bus cycles is the model's, log 2). -/
def Obligations.StepRunsThePendingCommand : Prop :=
  ∀ (s : State) (v : Word32) (i : Instr),
    s.pending = some v → s.wait = 0 → decode v = .ok i → step s = exec i s

/-- Every command, in every state, completes: a next state in which BUSY is 0, DONE is 1 and none is
pending, with CTRL, CMD, the operands that no command writes and the host's side unchanged
(70_reset_and_hazards.md R274; 10_state.md R26, R32, R33, R35). -/
def Obligations.EveryCommandCompletes : Prop :=
  ∀ (i : Instr) (s : State), ∃ t, exec i s = .next t ∧
    t.busy = false ∧ t.done = true ∧ t.pending = none ∧
    t.ieDone = s.ieDone ∧ t.ieErr = s.ieErr ∧ t.cmd = s.cmd ∧ t.denom = s.denom ∧
    t.bfWordLo = s.bfWordLo ∧ t.bfWordHi = s.bfWordHi ∧ t.bfValueLo = s.bfValueLo ∧
    t.bfValueHi = s.bfValueHi ∧ t.frameW = s.frameW ∧ t.frameH = s.frameH ∧
    t.chromaTable = s.chromaTable ∧ t.wait = s.wait ∧ t.issues = s.issues ∧ t.draws = s.draws ∧
    t.bus = s.bus ∧ t.resp = s.resp

/-- A command whose completion changes STATUS.ERR raised an error of its execution over ERR = 0, and
wrote none of its destinations (60_exceptions.md R242, R244, R248). -/
def Obligations.RaisingCommandWritesNothing : Prop :=
  ∀ (i : Instr) (s t : State), exec i s = .next t → t.err ≠ s.err →
    SameData s t ∧ s.err = none ∧
    (t.err = some .invalidWidth ∨ t.err = some .overflow ∨ t.err = some .denomZero ∨
      t.err = some .indexRange)

/-- A command changes no register but its destinations and STATUS; BLK_NEXT also moves CWIDX and
PXY0-3, which follow BPOS (70_reset_and_hazards.md R276; 10_state.md R40, R41). -/
def Obligations.CommandWritesOnlyItsDestinations : Prop :=
  ∀ (i : Instr) (s t : State) (r : Reg), exec i s = .next t →
    r ∉ destinations i → r ≠ .status →
    (i = .blkNext → r ≠ .cwidx ∧ ∀ n, r ≠ .pxy n) → readReg t r = readReg s r

/-- Only the writers that 10_state.md R45 lists write the sample file: CC_FWD its slot, CC_FWD4,
ENC_BLOCK and DEC_BLOCK all, DCT_INV the luma, CQ_INV the chroma. -/
def Obligations.SampleFileHasOnlyItsWriters : Prop :=
  ∀ (i : Instr) (s t : State), exec i s = .next t →
    (∀ n m : Slot, i = .ccFwd n → m ≠ n →
      t.y.get m = s.y.get m ∧ t.pb.get m = s.pb.get m ∧ t.pr.get m = s.pr.get m) ∧
    (i = .dctInv → t.pb = s.pb ∧ t.pr = s.pr) ∧
    (i = .cqInv → t.y = s.y) ∧
    ((∀ n, i ≠ .ccFwd n) → i ≠ .ccFwd4 → i ≠ .encBlock → i ≠ .decBlock → i ≠ .dctInv →
      i ≠ .cqInv → t.y = s.y ∧ t.pb = s.pb ∧ t.pr = s.pr)

/-- The result of an accepted command does not depend on LAT nor on what the host does meanwhile: from
a state in which it is pending, with no reset to come, after its cycles and its completion step it has
completed, and the data are those that running it at once would give (70_reset_and_hazards.md R274,
R279, an inference of the spec; that LAT is counted in bus cycles is the model's, log 2). -/
def Obligations.ResultIsIndependentOfLatency : Prop :=
  ∀ (s : State) (v : Word32) (i : Instr),
    TrackingAgrees s → s.pending = some v → decode v = .ok i → (∀ e ∈ s.bus, NoReset e) →
    ∃ t u, core.run (s.wait + 1) s = .next t ∧ exec i s = .next u ∧ SameData u t ∧
      t.busy = false ∧ t.done = true ∧ t.pending = none

/-! ### Invariants -/

/-- The invariant of the core holds at reset. -/
def Obligations.ResetIsConsistent : Prop := Consistent State.reset

/-- Every step keeps the invariant of the core: the command tracking agrees with STATUS and CMD
(10_state.md R24, R25, R46; 60_exceptions.md R243), TW and TH are even and the walk is in its grid
(10_state.md R36 to R38), and the chroma table of the part stays what it is (42_chroma_quant.md R140;
that the table is a field is the model's, log 5). -/
def Obligations.StepKeepsConsistent : Prop :=
  ∀ s t : State, Consistent s → step s = .next t →
    Consistent t ∧ t.chromaTable = s.chromaTable

/-- A core whose command tracking agrees never stops: every step is a next state, so no run from reset
ends in the model's own fault (60_exceptions.md R240; log 7). -/
def Obligations.ConsistentCoreNeverStops : Prop :=
  ∀ s : State, TrackingAgrees s → StepsOn s

/-! ### The bit-field unit -/

/-- 40_bitfield.md R104 (with `fits_u` of R102): BF_FITSU. -/
def Obligations.BfFitsuFollowsItsRule : Prop :=
  ∀ (w : Byte) (s : State),
    encode (.bfFitsU w) = (0x00#8 ++ w ++ 0x0050#16 : BitVec 32) ∧
    (64 < w.toNat → exec (.bfFitsU w) s = .next (erred s .invalidWidth)) ∧
    (w.toNat ≤ 64 → ∃ r : Word32,
      exec (.bfFitsU w) s = .next { s with
        bfResultLo := r, bfResultHi := 0, busy := false, done := true, pending := none } ∧
      (FitsUnsigned (valueNat s) w.toNat → r = 1) ∧ (¬FitsUnsigned (valueNat s) w.toNat → r = 0))

/-- 40_bitfield.md R105 (with `fits_s` of R103): BF_FITSS. -/
def Obligations.BfFitssFollowsItsRule : Prop :=
  ∀ (w : Byte) (s : State),
    encode (.bfFitsS w) = (0x00#8 ++ w ++ 0x0051#16 : BitVec 32) ∧
    (64 < w.toNat → exec (.bfFitsS w) s = .next (erred s .invalidWidth)) ∧
    (w.toNat ≤ 64 → ∃ r : Word32,
      exec (.bfFitsS w) s = .next { s with
        bfResultLo := r, bfResultHi := 0, busy := false, done := true, pending := none } ∧
      (FitsSigned (valueInt s) w.toNat → r = 1) ∧ (¬FitsSigned (valueInt s) w.toNat → r = 0))

/-- 40_bitfield.md R106: BF_GETU, the field as a number. -/
def Obligations.BfGetuFollowsItsRule : Prop :=
  ∀ (w l : Byte) (s : State),
    encode (.bfGetU w l) = (l ++ w ++ 0x0052#16 : BitVec 32) ∧
    (64 < w.toNat ∨ 64 < w.toNat + l.toNat →
      exec (.bfGetU w l) s = .next (erred s .invalidWidth)) ∧
    (w.toNat + l.toNat ≤ 64 → ∃ lo hi : Word32,
      exec (.bfGetU w l) s = .next { s with
        bfResultLo := lo, bfResultHi := hi, busy := false, done := true, pending := none } ∧
      hi.toNat * 2 ^ 32 + lo.toNat = wordNat s / 2 ^ l.toNat % 2 ^ w.toNat)

/-- 40_bitfield.md R107: BF_GETS, the field as a number, its top bit weighing negatively. -/
def Obligations.BfGetsFollowsItsRule : Prop :=
  ∀ (w l : Byte) (s : State),
    encode (.bfGetS w l) = (l ++ w ++ 0x0053#16 : BitVec 32) ∧
    (64 < w.toNat ∨ 64 < w.toNat + l.toNat →
      exec (.bfGetS w l) s = .next (erred s .invalidWidth)) ∧
    (w.toNat + l.toNat ≤ 64 → ∃ r : Word64,
      exec (.bfGetS w l) s = .next { s with
        bfResultLo := r.extractLsb' 0 32, bfResultHi := r.extractLsb' 32 32
        busy := false, done := true, pending := none } ∧
      (w.toNat = 0 → r = 0) ∧
      (w.toNat ≠ 0 → wordNat s / 2 ^ l.toNat % 2 ^ w.toNat < 2 ^ (w.toNat - 1) →
        r.toInt = (wordNat s / 2 ^ l.toNat % 2 ^ w.toNat : Nat)) ∧
      (w.toNat ≠ 0 → 2 ^ (w.toNat - 1) ≤ wordNat s / 2 ^ l.toNat % 2 ^ w.toNat →
        r.toInt = (wordNat s / 2 ^ l.toNat % 2 ^ w.toNat : Nat) - 2 ^ w.toNat))

/-- 40_bitfield.md R108: BF_SETU, bit by bit; the width check comes first, then the fit check. -/
def Obligations.BfSetuFollowsItsRule : Prop :=
  ∀ (w l : Byte) (s : State),
    encode (.bfSetU w l) = (l ++ w ++ 0x0054#16 : BitVec 32) ∧
    (64 < w.toNat ∨ 64 < w.toNat + l.toNat →
      exec (.bfSetU w l) s = .next (erred s .invalidWidth)) ∧
    (w.toNat + l.toNat ≤ 64 → ¬FitsUnsigned (valueNat s) w.toNat →
      exec (.bfSetU w l) s = .next (erred s .overflow)) ∧
    (w.toNat + l.toNat ≤ 64 → FitsUnsigned (valueNat s) w.toNat → ∃ r : Word64,
      exec (.bfSetU w l) s = .next { s with
        bfResultLo := r.extractLsb' 0 32, bfResultHi := r.extractLsb' 32 32
        busy := false, done := true, pending := none } ∧
      ∀ k < 64, r.getLsbD k =
        if l.toNat ≤ k ∧ k < l.toNat + w.toNat then (valueNat s).testBit (k - l.toNat)
        else (wordNat s).testBit k)

/-- 40_bitfield.md R109: BF_SETS, bit by bit; the width check comes first, then the fit check. -/
def Obligations.BfSetsFollowsItsRule : Prop :=
  ∀ (w l : Byte) (s : State),
    encode (.bfSetS w l) = (l ++ w ++ 0x0055#16 : BitVec 32) ∧
    (64 < w.toNat ∨ 64 < w.toNat + l.toNat →
      exec (.bfSetS w l) s = .next (erred s .invalidWidth)) ∧
    (w.toNat + l.toNat ≤ 64 → ¬FitsSigned (valueInt s) w.toNat →
      exec (.bfSetS w l) s = .next (erred s .overflow)) ∧
    (w.toNat + l.toNat ≤ 64 → FitsSigned (valueInt s) w.toNat → ∃ r : Word64,
      exec (.bfSetS w l) s = .next { s with
        bfResultLo := r.extractLsb' 0 32, bfResultHi := r.extractLsb' 32 32
        busy := false, done := true, pending := none } ∧
      ∀ k < 64, r.getLsbD k =
        if l.toNat ≤ k ∧ k < l.toNat + w.toNat then (valueNat s).testBit (k - l.toNat)
        else (wordNat s).testBit k)

/-- The round-trip laws of 40_bitfield.md R110 (an inference of the spec): extracting an inserted
field gives back the value, unsigned and signed. -/
def Obligations.ExtractedFieldIsTheInsertedValue : Prop :=
  ∀ (word value : Word64) (w l : Nat), w + l ≤ 64 →
    (fitsU value w = true → ∃ r, setU word w l value = .ok r ∧ getU r w l = value) ∧
    (fitsS value w = true → ∃ r, setS word w l value = .ok r ∧ getS r w l = value)

/-! ### The colour-space converter -/

/-- 41_colorspace.md R122 (with R120): CC_FWD. -/
def Obligations.CcFwdFollowsItsRule : Prop :=
  ∀ (n : Slot) (s : State),
    encode (.ccFwd n) = (0#22 ++ n ++ 0x01#8 : BitVec 32) ∧
    (s.denom = 0 → exec (.ccFwd n) s = .next (erred s .denomZero)) ∧
    (s.denom ≠ 0 → ∃ y pb pr : Quad Rat,
      exec (.ccFwd n) s = .next { s with
        y := y, pb := pb, pr := pr, busy := false, done := true, pending := none } ∧
      IsForwardSample (s.pix.get n) s.denom (y.get n) (pb.get n) (pr.get n) ∧
      ∀ m, m ≠ n → y.get m = s.y.get m ∧ pb.get m = s.pb.get m ∧ pr.get m = s.pr.get m)

/-- 41_colorspace.md R124 (with R120): CC_FWD4. -/
def Obligations.CcFwd4FollowsItsRule : Prop :=
  ∀ s : State,
    encode .ccFwd4 = 0x00000003 ∧
    (s.denom = 0 → exec .ccFwd4 s = .next (erred s .denomZero)) ∧
    (s.denom ≠ 0 → ∃ y pb pr : Quad Rat,
      exec .ccFwd4 s = .next { s with
        y := y, pb := pb, pr := pr, busy := false, done := true, pending := none } ∧
      ∀ m, IsForwardSample (s.pix.get m) s.denom (y.get m) (pb.get m) (pr.get m))

/-- 41_colorspace.md R123 (with R121): CC_INV. -/
def Obligations.CcInvFollowsItsRule : Prop :=
  ∀ (n : Slot) (s : State),
    encode (.ccInv n) = (0#22 ++ n ++ 0x02#8 : BitVec 32) ∧
    ∃ px : Quad Pixel,
      exec (.ccInv n) s = .next { s with
        pix := px, busy := false, done := true, pending := none } ∧
      IsInversePixel (s.y.get n) (s.pb.get n) (s.pr.get n) (px.get n) ∧
      ∀ m, m ≠ n → px.get m = s.pix.get m

/-- 41_colorspace.md R125 (with R121): CC_INV4. -/
def Obligations.CcInv4FollowsItsRule : Prop :=
  ∀ s : State,
    encode .ccInv4 = 0x00000004 ∧
    ∃ px : Quad Pixel,
      exec .ccInv4 s = .next { s with pix := px, busy := false, done := true, pending := none } ∧
      ∀ m, IsInversePixel (s.y.get m) (s.pb.get m) (s.pr.get m) (px.get m)

/-- The consequences of 41_colorspace.md R126 (an inference of the spec): a gray pixel has luma K / D
and chroma 0; with channels in 0..D luma lies in [0, 1] and chroma in [-1/2, 1/2]. -/
def Obligations.GrayHasNoChromaAndSamplesStayInRange : Prop :=
  ∀ (p : Pixel) (d : Half), d ≠ 0 →
    (p.r = p.g → p.g = p.b →
      rgbToYpbpr p d = ⟨(p.r.toNat : Rat) / (d.toNat : Rat), 0, 0⟩) ∧
    (p.r.toNat ≤ d.toNat → p.g.toNat ≤ d.toNat → p.b.toNat ≤ d.toNat →
      (0 ≤ (rgbToYpbpr p d).y ∧ (rgbToYpbpr p d).y ≤ 1) ∧
      |(rgbToYpbpr p d).pb| ≤ 1 / 2 ∧ |(rgbToYpbpr p d).pr| ≤ 1 / 2)

/-- The clamp property of 41_colorspace.md R127 (an inference of the spec): CC_INV leaves channels in
0..200 in its slot, CC_INV4 and DEC_BLOCK in every slot, whatever the samples hold; and DEC_BLOCK
raises nothing (45_block.md R207, an inference of the spec). -/
def Obligations.ReconstructedChannelsAreAtMost200 : Prop :=
  ∀ (s t : State) (n : Slot) (c : Channel),
    (exec (.ccInv n) s = .next t → ((t.pix.get n).get c).toNat ≤ 200) ∧
    (exec .ccInv4 s = .next t → ((t.pix.get n).get c).toNat ≤ 200) ∧
    (exec .decBlock s = .next t → ((t.pix.get n).get c).toNat ≤ 200 ∧ t.err = s.err)

/-! ### The chroma quantizer -/

/-- 42_chroma_quant.md R141: `index_of_chroma` is the least index of a nearest entry, of any table;
with the default table its decision points are the midpoints, each going to the lower index. -/
def Obligations.ChromaIndexIsTheLeastNearest : Prop :=
  (∀ (t : ChromaTable) (x : Rat), IsNearestIndex t x (indexOfChroma t x)) ∧
  (∀ i < 15, indexOfChroma defaultChromaTable
    ((defaultChromaTable.toList.getD i 0 + defaultChromaTable.toList.getD (i + 1) 0) / 2) = i) ∧
  (∀ x : Rat, 275 / 1000 < x → indexOfChroma defaultChromaTable x = 15) ∧
  (∀ x : Rat, x ≤ -275 / 1000 → indexOfChroma defaultChromaTable x = 0)

/-- 42_chroma_quant.md R143: CQ_FWD. -/
def Obligations.CqFwdFollowsItsRule : Prop :=
  ∀ s : State,
    encode .cqFwd = 0x00000020 ∧
    ∃ kb kr : Nat,
      exec .cqFwd s = .next { s with
        cwPb := BitVec.ofNat 32 kb, cwPr := BitVec.ofNat 32 kr
        busy := false, done := true, pending := none } ∧
      IsNearestIndex s.chromaTable
        (max (-1 / 2) (min (1 / 2) ((s.pb.s0 + s.pb.s1 + s.pb.s2 + s.pb.s3) / 4))) kb ∧
      IsNearestIndex s.chromaTable
        (max (-1 / 2) (min (1 / 2) ((s.pr.s0 + s.pr.s1 + s.pr.s2 + s.pr.s3) / 4))) kr

/-- 42_chroma_quant.md R144 (with R142): CQ_INV. -/
def Obligations.CqInvFollowsItsRule : Prop :=
  ∀ s : State,
    encode .cqInv = 0x00000021 ∧
    (15 < s.cwPb.toNat ∨ 15 < s.cwPr.toNat →
      exec .cqInv s = .next (erred s .indexRange)) ∧
    (∀ (hb : s.cwPb.toNat < 16) (hr : s.cwPr.toNat < 16),
      exec .cqInv s = .next { s with
        pb := ⟨s.chromaTable[s.cwPb.toNat], s.chromaTable[s.cwPb.toNat],
          s.chromaTable[s.cwPb.toNat], s.chromaTable[s.cwPb.toNat]⟩
        pr := ⟨s.chromaTable[s.cwPr.toNat], s.chromaTable[s.cwPr.toNat],
          s.chromaTable[s.cwPr.toNat], s.chromaTable[s.cwPr.toNat]⟩
        busy := false, done := true, pending := none })

/-! ### The luma transform -/

/-- 00_scope.md R9: `round` is to the nearest integer, halves away from zero, with its examples. -/
def Obligations.RoundIsToNearestHalvesAway : Prop :=
  (∀ x : Rat, IsRounded x (roundHalfAway x)) ∧
  (∀ x : Rat, 0 ≤ x → roundHalfAway x = ⌊x + 1 / 2⌋) ∧
  (∀ x : Rat, x < 0 → roundHalfAway x = -⌊-x + 1 / 2⌋) ∧
  roundHalfAway (63 / 2) = 32 ∧ roundHalfAway (1 / 2) = 1 ∧ roundHalfAway (-1 / 2) = -1 ∧
  roundHalfAway (-3 / 2) = -2

/-- 43_transform.md R164 (with R160, R162): DCT_FWD. -/
def Obligations.DctFwdFollowsItsRule : Prop :=
  ∀ s : State,
    encode .dctFwd = 0x00000010 ∧
    ∃ a b c d : Int,
      exec .dctFwd s = .next { s with
        cwA := BitVec.ofInt 32 a, cwB := BitVec.ofInt 32 b, cwC := BitVec.ofInt 32 c
        cwD := BitVec.ofInt 32 d, busy := false, done := true, pending := none } ∧
      IsClampedRounding (63 * ((s.y.s0 + s.y.s1 + s.y.s2 + s.y.s3) / 4)) 0 63 a ∧
      IsDetailCode ((s.y.s3 + s.y.s2 - s.y.s1 - s.y.s0) / 4) b ∧
      IsDetailCode ((s.y.s3 - s.y.s2 + s.y.s1 - s.y.s0) / 4) c ∧
      IsDetailCode ((s.y.s3 - s.y.s2 - s.y.s1 + s.y.s0) / 4) d ∧
      -30 ≤ b ∧ b ≤ 30 ∧ -30 ≤ c ∧ c ≤ 30 ∧ -30 ≤ d ∧ d ≤ 30

/-- 43_transform.md R165 (with R161, R163): DCT_INV, for every value the codeword registers hold. -/
def Obligations.DctInvFollowsItsRule : Prop :=
  ∀ (s : State) (a b c d : Rat),
    a = (s.cwA.toNat : Rat) / 63 → b = (s.cwB.toInt : Rat) / 100 → c = (s.cwC.toInt : Rat) / 100 →
    d = (s.cwD.toInt : Rat) / 100 →
    encode .dctInv = 0x00000011 ∧
    exec .dctInv s = .next { s with
      y := ⟨a - b - c + d, a - b + c - d, a + b - c - d, a + b + c + d⟩
      busy := false, done := true, pending := none }

/-- The round-trip bound of 43_transform.md R167 (an inference of the spec): for luma in [0, 1] whose
detail coefficients lie in [-0.3, 0.3], DCT_FWD then DCT_INV is off by at most 1/126 + 3/200 in every
slot. -/
def Obligations.LumaRoundTripIsBounded : Prop :=
  ∀ (s t u : State) (n : Slot),
    (∀ m, 0 ≤ s.y.get m ∧ s.y.get m ≤ 1) →
    |(s.y.s3 + s.y.s2 - s.y.s1 - s.y.s0) / 4| ≤ 3 / 10 →
    |(s.y.s3 - s.y.s2 + s.y.s1 - s.y.s0) / 4| ≤ 3 / 10 →
    |(s.y.s3 - s.y.s2 - s.y.s1 + s.y.s0) / 4| ≤ 3 / 10 →
    exec .dctFwd s = .next t → exec .dctInv t = .next u →
    |u.y.get n - s.y.get n| ≤ 1 / 126 + 3 / 200

/-! ### The codeword packer -/

/-- 44_codeword.md R181 (with the layout of R180): PACK. -/
def Obligations.PackFollowsItsRule : Prop :=
  ∀ s : State,
    encode .pack = 0x00000030 ∧
    (¬CodewordInRange s → exec .pack s = .next (erred s .overflow)) ∧
    (CodewordInRange s → ∃ w : Word32,
      exec .pack s = .next { s with word := w, busy := false, done := true, pending := none } ∧
      w.toNat = s.cwA.toNat * 2 ^ 26 + s.cwB.toNat % 64 * 2 ^ 20 + s.cwC.toNat % 64 * 2 ^ 14 +
        s.cwD.toNat % 64 * 2 ^ 8 + s.cwPb.toNat * 2 ^ 4 + s.cwPr.toNat)

/-- 44_codeword.md R182 (with the layout of R180): UNPACK. -/
def Obligations.UnpackFollowsItsRule : Prop :=
  ∀ s : State,
    encode .unpack = 0x00000031 ∧
    ∃ a b c d pb pr : Word32,
      exec .unpack s = .next { s with
        cwA := a, cwB := b, cwC := c, cwD := d, cwPb := pb, cwPr := pr
        busy := false, done := true, pending := none } ∧
      a.toNat = s.word.toNat / 2 ^ 26 ∧
      b.toInt = (s.word.extractLsb' 20 6).toInt ∧ c.toInt = (s.word.extractLsb' 14 6).toInt ∧
      d.toInt = (s.word.extractLsb' 8 6).toInt ∧
      pb.toNat = s.word.toNat / 16 % 16 ∧ pr.toNat = s.word.toNat % 16

/-- The round-trip laws of 44_codeword.md R183 (an inference of the spec): PACK then UNPACK restores an
in-range codeword, UNPACK then PACK restores every word. -/
def Obligations.PackAndUnpackAreInverse : Prop :=
  ∀ s t u : State,
    (CodewordInRange s → exec .pack s = .next t → exec .unpack t = .next u →
      u.cwA = s.cwA ∧ u.cwB = s.cwB ∧ u.cwC = s.cwC ∧ u.cwD = s.cwD ∧ u.cwPb = s.cwPb ∧
        u.cwPr = s.cwPr) ∧
    (exec .unpack s = .next t → exec .pack t = .next u → u.word = s.word ∧ u.err = s.err)

/-! ### Blocks -/

/-- 45_block.md R208: NOP goes through the life cycle and changes nothing else; its word is 0x00000000,
and with IE_DONE = 1 its completion raises `irq`. -/
def Obligations.NopFollowsItsRule : Prop :=
  ∀ s : State,
    encode .nop = 0x00000000 ∧
    exec .nop s = .next { s with busy := false, done := true, pending := none } ∧
    (s.ieDone = true → { s with busy := false, done := true, pending := none : State }.irq = true)

/-- 45_block.md R204 (with R201): BLK_START. -/
def Obligations.BlkStartFollowsItsRule : Prop :=
  ∀ s : State,
    encode .blkStart = 0x00000060 ∧
    ∃ (tw th : Half) (e : Bool),
      exec .blkStart s = .next { s with
        geomTw := tw, geomTh := th, bposCol := 0, bposRow := 0, bend := e
        busy := false, done := true, pending := none } ∧
      tw.toNat = 2 * (s.frameW.toNat / 2) ∧ th.toNat = 2 * (s.frameH.toNat / 2) ∧
      (e = true ↔ s.frameW.toNat < 2 ∨ s.frameH.toNat < 2)

/-- 45_block.md R205: BLK_NEXT. -/
def Obligations.BlkNextFollowsItsRule : Prop :=
  ∀ s : State,
    encode .blkNext = 0x00000061 ∧
    (s.bend = true →
      exec .blkNext s = .next { s with busy := false, done := true, pending := none }) ∧
    (s.bend = false → s.bposCol.toNat + 1 < s.geomTw.toNat / 2 →
      exec .blkNext s = .next { s with
        bposCol := BitVec.ofNat 16 (s.bposCol.toNat + 1)
        busy := false, done := true, pending := none }) ∧
    (s.bend = false → s.geomTw.toNat / 2 ≤ s.bposCol.toNat + 1 →
      s.bposRow.toNat + 1 < s.geomTh.toNat / 2 →
      exec .blkNext s = .next { s with
        bposCol := 0, bposRow := BitVec.ofNat 16 (s.bposRow.toNat + 1)
        busy := false, done := true, pending := none }) ∧
    (s.bend = false → s.geomTw.toNat / 2 ≤ s.bposCol.toNat + 1 →
      s.geomTh.toNat / 2 ≤ s.bposRow.toNat + 1 →
      exec .blkNext s = .next { s with
        bend := true, busy := false, done := true, pending := none })

/-- The walk visits NBLK blocks in the order CWIDX = 0, 1, ..., NBLK - 1 and then ends (45_block.md
R205, an inference of the spec): after BLK_START and k BLK_NEXT commands, CWIDX is k and BEND is 0
while k is below NBLK, and BEND is 1 from k = NBLK on, the position staying the last block's. -/
def Obligations.BlockWalkVisitsEveryBlockInOrder : Prop :=
  ∀ (s t : State) (k : Nat), exec .blkStart s = .next t →
    (k < t.nblk →
      ((afterCommand .blkNext)^[k] t).bend = false ∧ ((afterCommand .blkNext)^[k] t).cwidx = k) ∧
    (t.nblk ≤ k →
      ((afterCommand .blkNext)^[k] t).bend = true ∧
        ((afterCommand .blkNext)^[k] t).cwidx = t.nblk - 1)

/-- 10_state.md R39, R40, R41: the combinational registers NBLK, CWIDX and PXYn, for a walk that is
where it can be. -/
def Obligations.CombinationalRegistersReadTheirFormulas : Prop :=
  ∀ (s : State) (n : Slot), WalkInGrid s →
    (readReg s .nblk).toNat = (s.geomTw.toNat / 2) * (s.geomTh.toNat / 2) ∧
    (readReg s .nblk).toNat ≤ 32767 * 32767 ∧
    (readReg s .cwidx).toNat = s.bposRow.toNat * (s.geomTw.toNat / 2) + s.bposCol.toNat ∧
    ((readReg s (.pxy n)).extractLsb' 0 16).toNat = 2 * s.bposCol.toNat + n.toNat % 2 ∧
    ((readReg s (.pxy n)).extractLsb' 16 16).toNat = 2 * s.bposRow.toNat + n.toNat / 2 ∧
    ((readReg s (.pxy n)).extractLsb' 0 16).toNat ≤ 65533 ∧
    ((readReg s (.pxy n)).extractLsb' 16 16).toNat ≤ 65533 ∧
    readReg State.reset .nblk = 0 ∧ readReg State.reset .cwidx = 0 ∧
    readReg State.reset (.pxy n) = BitVec.ofNat 32 (n.toNat / 2 * 65536 + n.toNat % 2)

/-- 45_block.md R206: ENC_BLOCK is CC_FWD4, CQ_FWD, DCT_FWD and PACK one after another, as one command;
its only error is DENOM_ZERO. -/
def Obligations.EncBlockIsItsFourSteps : Prop :=
  ∀ s : State,
    encode .encBlock = 0x00000040 ∧
    (s.denom = 0 → exec .encBlock s = .next (erred s .denomZero)) ∧
    (s.denom ≠ 0 → ∃ t1 t2 t3 t4,
      exec .ccFwd4 s = .next t1 ∧ exec .cqFwd t1 = .next t2 ∧ exec .dctFwd t2 = .next t3 ∧
      exec .pack t3 = .next t4 ∧ exec .encBlock s = .next t4 ∧
      (s.err = none → t4.err = none))

/-- 45_block.md R207: DEC_BLOCK is UNPACK, CQ_INV, DCT_INV and CC_INV4 one after another, as one
command. -/
def Obligations.DecBlockIsItsFourSteps : Prop :=
  ∀ s : State,
    encode .decBlock = 0x00000041 ∧
    ∃ t1 t2 t3 t4,
      exec .unpack s = .next t1 ∧ exec .cqInv t1 = .next t2 ∧ exec .dctInv t2 = .next t3 ∧
      exec .ccInv4 t3 = .next t4 ∧ exec .decBlock s = .next t4

/-- Block independence (45_block.md R209, an inference of the spec): the codeword of a block depends
only on its four pixels and DENOM, a block's pixels only on its word, for one part's chroma table. -/
def Obligations.BlocksAreIndependent : Prop :=
  ∀ s s' t t' : State, s.chromaTable = s'.chromaTable →
    (s.denom ≠ 0 → s.denom = s'.denom → s.pix = s'.pix →
      exec .encBlock s = .next t → exec .encBlock s' = .next t' →
      t.word = t'.word ∧ t.cwA = t'.cwA ∧ t.cwB = t'.cwB ∧ t.cwC = t'.cwC ∧ t.cwD = t'.cwD ∧
        t.cwPb = t'.cwPb ∧ t.cwPr = t'.cwPr ∧ t.y = t'.y ∧ t.pb = t'.pb ∧ t.pr = t'.pr) ∧
    (s.word = s'.word → exec .decBlock s = .next t → exec .decBlock s' = .next t' →
      t.pix = t'.pix ∧ t.y = t'.y ∧ t.pb = t'.pb ∧ t.pr = t'.pr)

/-! ### The frame and the stream -/

/-- The frame that `compress_frame` returns does not depend on what the core held before
(45_block.md R209, R210; 20_memory.md R71): it is NBLK words, the word at the position of block (i, j)
being the WORD that ENC_BLOCK leaves for that block's pixels. -/
def Obligations.CompressedFrameIsItsBlocksWords : Prop :=
  ∀ (p : PixelGrid) (w h : Nat) (d : Half) (s s' : State) (i j : Nat),
    d ≠ 0 → s.chromaTable = s'.chromaTable →
    (compressFrame p w h d s).words.length = (w / 2) * (h / 2) ∧
    (i < w / 2 → j < h / 2 →
      (compressFrame p w h d s).words[codewordPosition (compressFrame p w h d s).tw i j]? =
        some (encodeBlock d (blockPixels p i j) s').word)

/-- Every pixel of the trimmed frame is written by exactly one block and slot (45_block.md R200,
R203). -/
def Obligations.EveryOutputPixelHasOneBlock : Prop :=
  ∀ (tw th x y : Nat), tw % 2 = 0 → th % 2 = 0 → x < tw → y < th →
    ∃! q : (Nat × Nat) × Slot,
      q.1 ∈ frameBlocks tw th ∧ slotColumn q.1.1 q.2 = x ∧ slotRow q.1.2 q.2 = y

/-- 20_memory.md R70: stream byte k of a word is its bits 31-8k : 24-8k, so 0x80000077 is 80 00 00 77,
and a host forms the word as (B0 << 24) | (B1 << 16) | (B2 << 8) | B3; reading a stream of words gives
the words back. -/
def Obligations.StreamIsMostSignificantByteFirst : Prop :=
  (∀ (w : Word32) (k : Nat), k < 4 →
    (wordBytes w)[k]? = some (w.extractLsb' (24 - 8 * k) 8)) ∧
  wordBytes 0x80000077 = [0x80, 0x00, 0x00, 0x77] ∧
  (∀ b0 b1 b2 b3 : Byte, (wordOfBytes b0 b1 b2 b3).toNat =
    b0.toNat * 2 ^ 24 + b1.toNat * 2 ^ 16 + b2.toNat * 2 ^ 8 + b3.toNat) ∧
  (∀ ws : List Word32, streamWords (streamBytes ws) = ws ∧
    (streamBytes ws).length = 4 * ws.length)
end

