-- ==== Sys2Proof/Laws/State.lean ====
section
/-! SUPPORT. One lemma per field per update of the state, each true by rfl, so that no later proof
unfolds a record update. -/

namespace Sys2Proof.Machine

variable (s : State)

/-! ### The completion of a command -/

@[simp] theorem State.complete_ieDone : (s.complete).ieDone = s.ieDone := rfl
@[simp] theorem State.complete_ieErr : (s.complete).ieErr = s.ieErr := rfl
@[simp] theorem State.complete_busy : (s.complete).busy = false := rfl
@[simp] theorem State.complete_done : (s.complete).done = true := rfl
@[simp] theorem State.complete_err : (s.complete).err = s.err := rfl
@[simp] theorem State.complete_cmd : (s.complete).cmd = s.cmd := rfl
@[simp] theorem State.complete_denom : (s.complete).denom = s.denom := rfl
@[simp] theorem State.complete_pix : (s.complete).pix = s.pix := rfl
@[simp] theorem State.complete_cwA : (s.complete).cwA = s.cwA := rfl
@[simp] theorem State.complete_cwB : (s.complete).cwB = s.cwB := rfl
@[simp] theorem State.complete_cwC : (s.complete).cwC = s.cwC := rfl
@[simp] theorem State.complete_cwD : (s.complete).cwD = s.cwD := rfl
@[simp] theorem State.complete_cwPb : (s.complete).cwPb = s.cwPb := rfl
@[simp] theorem State.complete_cwPr : (s.complete).cwPr = s.cwPr := rfl
@[simp] theorem State.complete_word : (s.complete).word = s.word := rfl
@[simp] theorem State.complete_bfWordLo : (s.complete).bfWordLo = s.bfWordLo := rfl
@[simp] theorem State.complete_bfWordHi : (s.complete).bfWordHi = s.bfWordHi := rfl
@[simp] theorem State.complete_bfValueLo : (s.complete).bfValueLo = s.bfValueLo := rfl
@[simp] theorem State.complete_bfValueHi : (s.complete).bfValueHi = s.bfValueHi := rfl
@[simp] theorem State.complete_bfResultLo : (s.complete).bfResultLo = s.bfResultLo := rfl
@[simp] theorem State.complete_bfResultHi : (s.complete).bfResultHi = s.bfResultHi := rfl
@[simp] theorem State.complete_frameW : (s.complete).frameW = s.frameW := rfl
@[simp] theorem State.complete_frameH : (s.complete).frameH = s.frameH := rfl
@[simp] theorem State.complete_geomTw : (s.complete).geomTw = s.geomTw := rfl
@[simp] theorem State.complete_geomTh : (s.complete).geomTh = s.geomTh := rfl
@[simp] theorem State.complete_bposCol : (s.complete).bposCol = s.bposCol := rfl
@[simp] theorem State.complete_bposRow : (s.complete).bposRow = s.bposRow := rfl
@[simp] theorem State.complete_bend : (s.complete).bend = s.bend := rfl
@[simp] theorem State.complete_y : (s.complete).y = s.y := rfl
@[simp] theorem State.complete_pb : (s.complete).pb = s.pb := rfl
@[simp] theorem State.complete_pr : (s.complete).pr = s.pr := rfl
@[simp] theorem State.complete_pending : (s.complete).pending = none := rfl
@[simp] theorem State.complete_chromaTable : (s.complete).chromaTable = s.chromaTable := rfl
@[simp] theorem State.complete_wait : (s.complete).wait = s.wait := rfl
@[simp] theorem State.complete_issues : (s.complete).issues = s.issues := rfl
@[simp] theorem State.complete_draws : (s.complete).draws = s.draws := rfl
@[simp] theorem State.complete_bus : (s.complete).bus = s.bus := rfl
@[simp] theorem State.complete_resp : (s.complete).resp = s.resp := rfl

/-! ### Raising a core error -/

@[simp] theorem State.raiseError_ieDone (c : CoreError) : (s.raiseError c).ieDone = s.ieDone := rfl
@[simp] theorem State.raiseError_ieErr (c : CoreError) : (s.raiseError c).ieErr = s.ieErr := rfl
@[simp] theorem State.raiseError_busy (c : CoreError) : (s.raiseError c).busy = false := rfl
@[simp] theorem State.raiseError_done (c : CoreError) : (s.raiseError c).done = true := rfl
@[simp] theorem State.raiseError_err (c : CoreError) : (s.raiseError c).err = recordError s.err c := rfl
@[simp] theorem State.raiseError_cmd (c : CoreError) : (s.raiseError c).cmd = s.cmd := rfl
@[simp] theorem State.raiseError_denom (c : CoreError) : (s.raiseError c).denom = s.denom := rfl
@[simp] theorem State.raiseError_pix (c : CoreError) : (s.raiseError c).pix = s.pix := rfl
@[simp] theorem State.raiseError_cwA (c : CoreError) : (s.raiseError c).cwA = s.cwA := rfl
@[simp] theorem State.raiseError_cwB (c : CoreError) : (s.raiseError c).cwB = s.cwB := rfl
@[simp] theorem State.raiseError_cwC (c : CoreError) : (s.raiseError c).cwC = s.cwC := rfl
@[simp] theorem State.raiseError_cwD (c : CoreError) : (s.raiseError c).cwD = s.cwD := rfl
@[simp] theorem State.raiseError_cwPb (c : CoreError) : (s.raiseError c).cwPb = s.cwPb := rfl
@[simp] theorem State.raiseError_cwPr (c : CoreError) : (s.raiseError c).cwPr = s.cwPr := rfl
@[simp] theorem State.raiseError_word (c : CoreError) : (s.raiseError c).word = s.word := rfl
@[simp] theorem State.raiseError_bfWordLo (c : CoreError) : (s.raiseError c).bfWordLo = s.bfWordLo := rfl
@[simp] theorem State.raiseError_bfWordHi (c : CoreError) : (s.raiseError c).bfWordHi = s.bfWordHi := rfl
@[simp] theorem State.raiseError_bfValueLo (c : CoreError) : (s.raiseError c).bfValueLo = s.bfValueLo := rfl
@[simp] theorem State.raiseError_bfValueHi (c : CoreError) : (s.raiseError c).bfValueHi = s.bfValueHi := rfl
@[simp] theorem State.raiseError_bfResultLo (c : CoreError) : (s.raiseError c).bfResultLo = s.bfResultLo := rfl
@[simp] theorem State.raiseError_bfResultHi (c : CoreError) : (s.raiseError c).bfResultHi = s.bfResultHi := rfl
@[simp] theorem State.raiseError_frameW (c : CoreError) : (s.raiseError c).frameW = s.frameW := rfl
@[simp] theorem State.raiseError_frameH (c : CoreError) : (s.raiseError c).frameH = s.frameH := rfl
@[simp] theorem State.raiseError_geomTw (c : CoreError) : (s.raiseError c).geomTw = s.geomTw := rfl
@[simp] theorem State.raiseError_geomTh (c : CoreError) : (s.raiseError c).geomTh = s.geomTh := rfl
@[simp] theorem State.raiseError_bposCol (c : CoreError) : (s.raiseError c).bposCol = s.bposCol := rfl
@[simp] theorem State.raiseError_bposRow (c : CoreError) : (s.raiseError c).bposRow = s.bposRow := rfl
@[simp] theorem State.raiseError_bend (c : CoreError) : (s.raiseError c).bend = s.bend := rfl
@[simp] theorem State.raiseError_y (c : CoreError) : (s.raiseError c).y = s.y := rfl
@[simp] theorem State.raiseError_pb (c : CoreError) : (s.raiseError c).pb = s.pb := rfl
@[simp] theorem State.raiseError_pr (c : CoreError) : (s.raiseError c).pr = s.pr := rfl
@[simp] theorem State.raiseError_pending (c : CoreError) : (s.raiseError c).pending = none := rfl
@[simp] theorem State.raiseError_chromaTable (c : CoreError) : (s.raiseError c).chromaTable = s.chromaTable := rfl
@[simp] theorem State.raiseError_wait (c : CoreError) : (s.raiseError c).wait = s.wait := rfl
@[simp] theorem State.raiseError_issues (c : CoreError) : (s.raiseError c).issues = s.issues := rfl
@[simp] theorem State.raiseError_draws (c : CoreError) : (s.raiseError c).draws = s.draws := rfl
@[simp] theorem State.raiseError_bus (c : CoreError) : (s.raiseError c).bus = s.bus := rfl
@[simp] theorem State.raiseError_resp (c : CoreError) : (s.raiseError c).resp = s.resp := rfl

/-! ### Reset -/

@[simp] theorem State.resetCore_ieDone : (s.resetCore).ieDone = false := rfl
@[simp] theorem State.resetCore_ieErr : (s.resetCore).ieErr = false := rfl
@[simp] theorem State.resetCore_busy : (s.resetCore).busy = false := rfl
@[simp] theorem State.resetCore_done : (s.resetCore).done = false := rfl
@[simp] theorem State.resetCore_err : (s.resetCore).err = none := rfl
@[simp] theorem State.resetCore_cmd : (s.resetCore).cmd = 0 := rfl
@[simp] theorem State.resetCore_denom : (s.resetCore).denom = 0 := rfl
@[simp] theorem State.resetCore_pix : (s.resetCore).pix = ⟨⟨0, 0, 0⟩, ⟨0, 0, 0⟩, ⟨0, 0, 0⟩, ⟨0, 0, 0⟩⟩ := rfl
@[simp] theorem State.resetCore_cwA : (s.resetCore).cwA = 0 := rfl
@[simp] theorem State.resetCore_cwB : (s.resetCore).cwB = 0 := rfl
@[simp] theorem State.resetCore_cwC : (s.resetCore).cwC = 0 := rfl
@[simp] theorem State.resetCore_cwD : (s.resetCore).cwD = 0 := rfl
@[simp] theorem State.resetCore_cwPb : (s.resetCore).cwPb = 0 := rfl
@[simp] theorem State.resetCore_cwPr : (s.resetCore).cwPr = 0 := rfl
@[simp] theorem State.resetCore_word : (s.resetCore).word = 0 := rfl
@[simp] theorem State.resetCore_bfWordLo : (s.resetCore).bfWordLo = 0 := rfl
@[simp] theorem State.resetCore_bfWordHi : (s.resetCore).bfWordHi = 0 := rfl
@[simp] theorem State.resetCore_bfValueLo : (s.resetCore).bfValueLo = 0 := rfl
@[simp] theorem State.resetCore_bfValueHi : (s.resetCore).bfValueHi = 0 := rfl
@[simp] theorem State.resetCore_bfResultLo : (s.resetCore).bfResultLo = 0 := rfl
@[simp] theorem State.resetCore_bfResultHi : (s.resetCore).bfResultHi = 0 := rfl
@[simp] theorem State.resetCore_frameW : (s.resetCore).frameW = 0 := rfl
@[simp] theorem State.resetCore_frameH : (s.resetCore).frameH = 0 := rfl
@[simp] theorem State.resetCore_geomTw : (s.resetCore).geomTw = 0 := rfl
@[simp] theorem State.resetCore_geomTh : (s.resetCore).geomTh = 0 := rfl
@[simp] theorem State.resetCore_bposCol : (s.resetCore).bposCol = 0 := rfl
@[simp] theorem State.resetCore_bposRow : (s.resetCore).bposRow = 0 := rfl
@[simp] theorem State.resetCore_bend : (s.resetCore).bend = true := rfl
@[simp] theorem State.resetCore_y : (s.resetCore).y = ⟨0, 0, 0, 0⟩ := rfl
@[simp] theorem State.resetCore_pb : (s.resetCore).pb = ⟨0, 0, 0, 0⟩ := rfl
@[simp] theorem State.resetCore_pr : (s.resetCore).pr = ⟨0, 0, 0, 0⟩ := rfl
@[simp] theorem State.resetCore_pending : (s.resetCore).pending = none := rfl
@[simp] theorem State.resetCore_chromaTable : (s.resetCore).chromaTable = s.chromaTable := rfl
@[simp] theorem State.resetCore_wait : (s.resetCore).wait = 0 := rfl
@[simp] theorem State.resetCore_issues : (s.resetCore).issues = s.issues := rfl
@[simp] theorem State.resetCore_draws : (s.resetCore).draws = s.draws := rfl
@[simp] theorem State.resetCore_bus : (s.resetCore).bus = s.bus := rfl
@[simp] theorem State.resetCore_resp : (s.resetCore).resp = s.resp := rfl

/-! ### Writing BF_RESULT -/

@[simp] theorem State.setBfResult_ieDone (r : Word64) : (s.setBfResult r).ieDone = s.ieDone := rfl
@[simp] theorem State.setBfResult_ieErr (r : Word64) : (s.setBfResult r).ieErr = s.ieErr := rfl
@[simp] theorem State.setBfResult_busy (r : Word64) : (s.setBfResult r).busy = s.busy := rfl
@[simp] theorem State.setBfResult_done (r : Word64) : (s.setBfResult r).done = s.done := rfl
@[simp] theorem State.setBfResult_err (r : Word64) : (s.setBfResult r).err = s.err := rfl
@[simp] theorem State.setBfResult_cmd (r : Word64) : (s.setBfResult r).cmd = s.cmd := rfl
@[simp] theorem State.setBfResult_denom (r : Word64) : (s.setBfResult r).denom = s.denom := rfl
@[simp] theorem State.setBfResult_pix (r : Word64) : (s.setBfResult r).pix = s.pix := rfl
@[simp] theorem State.setBfResult_cwA (r : Word64) : (s.setBfResult r).cwA = s.cwA := rfl
@[simp] theorem State.setBfResult_cwB (r : Word64) : (s.setBfResult r).cwB = s.cwB := rfl
@[simp] theorem State.setBfResult_cwC (r : Word64) : (s.setBfResult r).cwC = s.cwC := rfl
@[simp] theorem State.setBfResult_cwD (r : Word64) : (s.setBfResult r).cwD = s.cwD := rfl
@[simp] theorem State.setBfResult_cwPb (r : Word64) : (s.setBfResult r).cwPb = s.cwPb := rfl
@[simp] theorem State.setBfResult_cwPr (r : Word64) : (s.setBfResult r).cwPr = s.cwPr := rfl
@[simp] theorem State.setBfResult_word (r : Word64) : (s.setBfResult r).word = s.word := rfl
@[simp] theorem State.setBfResult_bfWordLo (r : Word64) : (s.setBfResult r).bfWordLo = s.bfWordLo := rfl
@[simp] theorem State.setBfResult_bfWordHi (r : Word64) : (s.setBfResult r).bfWordHi = s.bfWordHi := rfl
@[simp] theorem State.setBfResult_bfValueLo (r : Word64) : (s.setBfResult r).bfValueLo = s.bfValueLo := rfl
@[simp] theorem State.setBfResult_bfValueHi (r : Word64) : (s.setBfResult r).bfValueHi = s.bfValueHi := rfl
@[simp] theorem State.setBfResult_bfResultLo (r : Word64) : (s.setBfResult r).bfResultLo = low32 r := rfl
@[simp] theorem State.setBfResult_bfResultHi (r : Word64) : (s.setBfResult r).bfResultHi = high32 r := rfl
@[simp] theorem State.setBfResult_frameW (r : Word64) : (s.setBfResult r).frameW = s.frameW := rfl
@[simp] theorem State.setBfResult_frameH (r : Word64) : (s.setBfResult r).frameH = s.frameH := rfl
@[simp] theorem State.setBfResult_geomTw (r : Word64) : (s.setBfResult r).geomTw = s.geomTw := rfl
@[simp] theorem State.setBfResult_geomTh (r : Word64) : (s.setBfResult r).geomTh = s.geomTh := rfl
@[simp] theorem State.setBfResult_bposCol (r : Word64) : (s.setBfResult r).bposCol = s.bposCol := rfl
@[simp] theorem State.setBfResult_bposRow (r : Word64) : (s.setBfResult r).bposRow = s.bposRow := rfl
@[simp] theorem State.setBfResult_bend (r : Word64) : (s.setBfResult r).bend = s.bend := rfl
@[simp] theorem State.setBfResult_y (r : Word64) : (s.setBfResult r).y = s.y := rfl
@[simp] theorem State.setBfResult_pb (r : Word64) : (s.setBfResult r).pb = s.pb := rfl
@[simp] theorem State.setBfResult_pr (r : Word64) : (s.setBfResult r).pr = s.pr := rfl
@[simp] theorem State.setBfResult_pending (r : Word64) : (s.setBfResult r).pending = s.pending := rfl
@[simp] theorem State.setBfResult_chromaTable (r : Word64) : (s.setBfResult r).chromaTable = s.chromaTable := rfl
@[simp] theorem State.setBfResult_wait (r : Word64) : (s.setBfResult r).wait = s.wait := rfl
@[simp] theorem State.setBfResult_issues (r : Word64) : (s.setBfResult r).issues = s.issues := rfl
@[simp] theorem State.setBfResult_draws (r : Word64) : (s.setBfResult r).draws = s.draws := rfl
@[simp] theorem State.setBfResult_bus (r : Word64) : (s.setBfResult r).bus = s.bus := rfl
@[simp] theorem State.setBfResult_resp (r : Word64) : (s.setBfResult r).resp = s.resp := rfl

/-! ### Writing the sample of a slot -/

@[simp] theorem State.setSample_ieDone (n : Slot) (v : Sample) : (s.setSample n v).ieDone = s.ieDone := rfl
@[simp] theorem State.setSample_ieErr (n : Slot) (v : Sample) : (s.setSample n v).ieErr = s.ieErr := rfl
@[simp] theorem State.setSample_busy (n : Slot) (v : Sample) : (s.setSample n v).busy = s.busy := rfl
@[simp] theorem State.setSample_done (n : Slot) (v : Sample) : (s.setSample n v).done = s.done := rfl
@[simp] theorem State.setSample_err (n : Slot) (v : Sample) : (s.setSample n v).err = s.err := rfl
@[simp] theorem State.setSample_cmd (n : Slot) (v : Sample) : (s.setSample n v).cmd = s.cmd := rfl
@[simp] theorem State.setSample_denom (n : Slot) (v : Sample) : (s.setSample n v).denom = s.denom := rfl
@[simp] theorem State.setSample_pix (n : Slot) (v : Sample) : (s.setSample n v).pix = s.pix := rfl
@[simp] theorem State.setSample_cwA (n : Slot) (v : Sample) : (s.setSample n v).cwA = s.cwA := rfl
@[simp] theorem State.setSample_cwB (n : Slot) (v : Sample) : (s.setSample n v).cwB = s.cwB := rfl
@[simp] theorem State.setSample_cwC (n : Slot) (v : Sample) : (s.setSample n v).cwC = s.cwC := rfl
@[simp] theorem State.setSample_cwD (n : Slot) (v : Sample) : (s.setSample n v).cwD = s.cwD := rfl
@[simp] theorem State.setSample_cwPb (n : Slot) (v : Sample) : (s.setSample n v).cwPb = s.cwPb := rfl
@[simp] theorem State.setSample_cwPr (n : Slot) (v : Sample) : (s.setSample n v).cwPr = s.cwPr := rfl
@[simp] theorem State.setSample_word (n : Slot) (v : Sample) : (s.setSample n v).word = s.word := rfl
@[simp] theorem State.setSample_bfWordLo (n : Slot) (v : Sample) : (s.setSample n v).bfWordLo = s.bfWordLo := rfl
@[simp] theorem State.setSample_bfWordHi (n : Slot) (v : Sample) : (s.setSample n v).bfWordHi = s.bfWordHi := rfl
@[simp] theorem State.setSample_bfValueLo (n : Slot) (v : Sample) : (s.setSample n v).bfValueLo = s.bfValueLo := rfl
@[simp] theorem State.setSample_bfValueHi (n : Slot) (v : Sample) : (s.setSample n v).bfValueHi = s.bfValueHi := rfl
@[simp] theorem State.setSample_bfResultLo (n : Slot) (v : Sample) : (s.setSample n v).bfResultLo = s.bfResultLo := rfl
@[simp] theorem State.setSample_bfResultHi (n : Slot) (v : Sample) : (s.setSample n v).bfResultHi = s.bfResultHi := rfl
@[simp] theorem State.setSample_frameW (n : Slot) (v : Sample) : (s.setSample n v).frameW = s.frameW := rfl
@[simp] theorem State.setSample_frameH (n : Slot) (v : Sample) : (s.setSample n v).frameH = s.frameH := rfl
@[simp] theorem State.setSample_geomTw (n : Slot) (v : Sample) : (s.setSample n v).geomTw = s.geomTw := rfl
@[simp] theorem State.setSample_geomTh (n : Slot) (v : Sample) : (s.setSample n v).geomTh = s.geomTh := rfl
@[simp] theorem State.setSample_bposCol (n : Slot) (v : Sample) : (s.setSample n v).bposCol = s.bposCol := rfl
@[simp] theorem State.setSample_bposRow (n : Slot) (v : Sample) : (s.setSample n v).bposRow = s.bposRow := rfl
@[simp] theorem State.setSample_bend (n : Slot) (v : Sample) : (s.setSample n v).bend = s.bend := rfl
@[simp] theorem State.setSample_y (n : Slot) (v : Sample) : (s.setSample n v).y = s.y.set n v.y := rfl
@[simp] theorem State.setSample_pb (n : Slot) (v : Sample) : (s.setSample n v).pb = s.pb.set n v.pb := rfl
@[simp] theorem State.setSample_pr (n : Slot) (v : Sample) : (s.setSample n v).pr = s.pr.set n v.pr := rfl
@[simp] theorem State.setSample_pending (n : Slot) (v : Sample) : (s.setSample n v).pending = s.pending := rfl
@[simp] theorem State.setSample_chromaTable (n : Slot) (v : Sample) : (s.setSample n v).chromaTable = s.chromaTable := rfl
@[simp] theorem State.setSample_wait (n : Slot) (v : Sample) : (s.setSample n v).wait = s.wait := rfl
@[simp] theorem State.setSample_issues (n : Slot) (v : Sample) : (s.setSample n v).issues = s.issues := rfl
@[simp] theorem State.setSample_draws (n : Slot) (v : Sample) : (s.setSample n v).draws = s.draws := rfl
@[simp] theorem State.setSample_bus (n : Slot) (v : Sample) : (s.setSample n v).bus = s.bus := rfl
@[simp] theorem State.setSample_resp (n : Slot) (v : Sample) : (s.setSample n v).resp = s.resp := rfl

/-! ### A command just accepted with LAT = 0 -/

@[simp] theorem State.acceptedNow_ieDone (v : Word32) : (s.acceptedNow v).ieDone = s.ieDone := rfl
@[simp] theorem State.acceptedNow_ieErr (v : Word32) : (s.acceptedNow v).ieErr = s.ieErr := rfl
@[simp] theorem State.acceptedNow_busy (v : Word32) : (s.acceptedNow v).busy = true := rfl
@[simp] theorem State.acceptedNow_done (v : Word32) : (s.acceptedNow v).done = false := rfl
@[simp] theorem State.acceptedNow_err (v : Word32) : (s.acceptedNow v).err = s.err := rfl
@[simp] theorem State.acceptedNow_cmd (v : Word32) : (s.acceptedNow v).cmd = v := rfl
@[simp] theorem State.acceptedNow_denom (v : Word32) : (s.acceptedNow v).denom = s.denom := rfl
@[simp] theorem State.acceptedNow_pix (v : Word32) : (s.acceptedNow v).pix = s.pix := rfl
@[simp] theorem State.acceptedNow_cwA (v : Word32) : (s.acceptedNow v).cwA = s.cwA := rfl
@[simp] theorem State.acceptedNow_cwB (v : Word32) : (s.acceptedNow v).cwB = s.cwB := rfl
@[simp] theorem State.acceptedNow_cwC (v : Word32) : (s.acceptedNow v).cwC = s.cwC := rfl
@[simp] theorem State.acceptedNow_cwD (v : Word32) : (s.acceptedNow v).cwD = s.cwD := rfl
@[simp] theorem State.acceptedNow_cwPb (v : Word32) : (s.acceptedNow v).cwPb = s.cwPb := rfl
@[simp] theorem State.acceptedNow_cwPr (v : Word32) : (s.acceptedNow v).cwPr = s.cwPr := rfl
@[simp] theorem State.acceptedNow_word (v : Word32) : (s.acceptedNow v).word = s.word := rfl
@[simp] theorem State.acceptedNow_bfWordLo (v : Word32) : (s.acceptedNow v).bfWordLo = s.bfWordLo := rfl
@[simp] theorem State.acceptedNow_bfWordHi (v : Word32) : (s.acceptedNow v).bfWordHi = s.bfWordHi := rfl
@[simp] theorem State.acceptedNow_bfValueLo (v : Word32) : (s.acceptedNow v).bfValueLo = s.bfValueLo := rfl
@[simp] theorem State.acceptedNow_bfValueHi (v : Word32) : (s.acceptedNow v).bfValueHi = s.bfValueHi := rfl
@[simp] theorem State.acceptedNow_bfResultLo (v : Word32) : (s.acceptedNow v).bfResultLo = s.bfResultLo := rfl
@[simp] theorem State.acceptedNow_bfResultHi (v : Word32) : (s.acceptedNow v).bfResultHi = s.bfResultHi := rfl
@[simp] theorem State.acceptedNow_frameW (v : Word32) : (s.acceptedNow v).frameW = s.frameW := rfl
@[simp] theorem State.acceptedNow_frameH (v : Word32) : (s.acceptedNow v).frameH = s.frameH := rfl
@[simp] theorem State.acceptedNow_geomTw (v : Word32) : (s.acceptedNow v).geomTw = s.geomTw := rfl
@[simp] theorem State.acceptedNow_geomTh (v : Word32) : (s.acceptedNow v).geomTh = s.geomTh := rfl
@[simp] theorem State.acceptedNow_bposCol (v : Word32) : (s.acceptedNow v).bposCol = s.bposCol := rfl
@[simp] theorem State.acceptedNow_bposRow (v : Word32) : (s.acceptedNow v).bposRow = s.bposRow := rfl
@[simp] theorem State.acceptedNow_bend (v : Word32) : (s.acceptedNow v).bend = s.bend := rfl
@[simp] theorem State.acceptedNow_y (v : Word32) : (s.acceptedNow v).y = s.y := rfl
@[simp] theorem State.acceptedNow_pb (v : Word32) : (s.acceptedNow v).pb = s.pb := rfl
@[simp] theorem State.acceptedNow_pr (v : Word32) : (s.acceptedNow v).pr = s.pr := rfl
@[simp] theorem State.acceptedNow_pending (v : Word32) : (s.acceptedNow v).pending = some v := rfl
@[simp] theorem State.acceptedNow_chromaTable (v : Word32) : (s.acceptedNow v).chromaTable = s.chromaTable := rfl
@[simp] theorem State.acceptedNow_wait (v : Word32) : (s.acceptedNow v).wait = 0 := rfl
@[simp] theorem State.acceptedNow_issues (v : Word32) : (s.acceptedNow v).issues = s.issues := rfl
@[simp] theorem State.acceptedNow_draws (v : Word32) : (s.acceptedNow v).draws = s.draws := rfl
@[simp] theorem State.acceptedNow_bus (v : Word32) : (s.acceptedNow v).bus = s.bus := rfl
@[simp] theorem State.acceptedNow_resp (v : Word32) : (s.acceptedNow v).resp = s.resp := rfl

/-! ### Drawing a free value -/

@[simp] theorem State.draw_ieDone : (s.draw).ieDone = s.ieDone := rfl
@[simp] theorem State.draw_ieErr : (s.draw).ieErr = s.ieErr := rfl
@[simp] theorem State.draw_busy : (s.draw).busy = s.busy := rfl
@[simp] theorem State.draw_done : (s.draw).done = s.done := rfl
@[simp] theorem State.draw_err : (s.draw).err = s.err := rfl
@[simp] theorem State.draw_cmd : (s.draw).cmd = s.cmd := rfl
@[simp] theorem State.draw_denom : (s.draw).denom = s.denom := rfl
@[simp] theorem State.draw_pix : (s.draw).pix = s.pix := rfl
@[simp] theorem State.draw_cwA : (s.draw).cwA = s.cwA := rfl
@[simp] theorem State.draw_cwB : (s.draw).cwB = s.cwB := rfl
@[simp] theorem State.draw_cwC : (s.draw).cwC = s.cwC := rfl
@[simp] theorem State.draw_cwD : (s.draw).cwD = s.cwD := rfl
@[simp] theorem State.draw_cwPb : (s.draw).cwPb = s.cwPb := rfl
@[simp] theorem State.draw_cwPr : (s.draw).cwPr = s.cwPr := rfl
@[simp] theorem State.draw_word : (s.draw).word = s.word := rfl
@[simp] theorem State.draw_bfWordLo : (s.draw).bfWordLo = s.bfWordLo := rfl
@[simp] theorem State.draw_bfWordHi : (s.draw).bfWordHi = s.bfWordHi := rfl
@[simp] theorem State.draw_bfValueLo : (s.draw).bfValueLo = s.bfValueLo := rfl
@[simp] theorem State.draw_bfValueHi : (s.draw).bfValueHi = s.bfValueHi := rfl
@[simp] theorem State.draw_bfResultLo : (s.draw).bfResultLo = s.bfResultLo := rfl
@[simp] theorem State.draw_bfResultHi : (s.draw).bfResultHi = s.bfResultHi := rfl
@[simp] theorem State.draw_frameW : (s.draw).frameW = s.frameW := rfl
@[simp] theorem State.draw_frameH : (s.draw).frameH = s.frameH := rfl
@[simp] theorem State.draw_geomTw : (s.draw).geomTw = s.geomTw := rfl
@[simp] theorem State.draw_geomTh : (s.draw).geomTh = s.geomTh := rfl
@[simp] theorem State.draw_bposCol : (s.draw).bposCol = s.bposCol := rfl
@[simp] theorem State.draw_bposRow : (s.draw).bposRow = s.bposRow := rfl
@[simp] theorem State.draw_bend : (s.draw).bend = s.bend := rfl
@[simp] theorem State.draw_y : (s.draw).y = s.y := rfl
@[simp] theorem State.draw_pb : (s.draw).pb = s.pb := rfl
@[simp] theorem State.draw_pr : (s.draw).pr = s.pr := rfl
@[simp] theorem State.draw_pending : (s.draw).pending = s.pending := rfl
@[simp] theorem State.draw_chromaTable : (s.draw).chromaTable = s.chromaTable := rfl
@[simp] theorem State.draw_wait : (s.draw).wait = s.wait := rfl
@[simp] theorem State.draw_issues : (s.draw).issues = s.issues := rfl
@[simp] theorem State.draw_draws : (s.draw).draws = s.draws + 1 := rfl
@[simp] theorem State.draw_bus : (s.draw).bus = s.bus := rfl
@[simp] theorem State.draw_resp : (s.draw).resp = s.resp := rfl

end Sys2Proof.Machine
end

