-- ==== Sys2Proof/Laws/Ops.lean ====
section
/-! SUPPORT. What each shared operation can do, said once: slots, completion and error, issue, one bus
cycle, one step. Later proofs cite these instead of unfolding the operations. -/

namespace Sys2Proof.Machine

/-! ### Slots -/

/-- A slot is one of four. -/
theorem Slot.cases (n : Slot) : n = 0 ∨ n = 1 ∨ n = 2 ∨ n = 3 := by
  revert n; decide

@[simp] theorem Quad.get_zero {α : Type} (q : Quad α) : q.get 0 = q.s0 := rfl
@[simp] theorem Quad.get_one {α : Type} (q : Quad α) : q.get 1 = q.s1 := rfl
@[simp] theorem Quad.get_two {α : Type} (q : Quad α) : q.get 2 = q.s2 := rfl
@[simp] theorem Quad.get_three {α : Type} (q : Quad α) : q.get 3 = q.s3 := rfl
@[simp] theorem Quad.set_zero {α : Type} (q : Quad α) (v : α) : q.set 0 v = { q with s0 := v } := rfl
@[simp] theorem Quad.set_one {α : Type} (q : Quad α) (v : α) : q.set 1 v = { q with s1 := v } := rfl
@[simp] theorem Quad.set_two {α : Type} (q : Quad α) (v : α) : q.set 2 v = { q with s2 := v } := rfl
@[simp] theorem Quad.set_three {α : Type} (q : Quad α) (v : α) : q.set 3 v = { q with s3 := v } := rfl

/-- Reading a slot after writing one. -/
theorem Quad.get_set {α : Type} (q : Quad α) (n m : Slot) (v : α) :
    (q.set n v).get m = if m = n then v else q.get m := by
  rcases Slot.cases n with rfl | rfl | rfl | rfl <;>
    rcases Slot.cases m with rfl | rfl | rfl | rfl <;> rfl

@[simp] theorem Quad.get_set_same {α : Type} (q : Quad α) (n : Slot) (v : α) :
    (q.set n v).get n = v := by simp [Quad.get_set]

@[simp] theorem Quad.get_all {α : Type} (v : α) (n : Slot) : (Quad.all v).get n = v := by
  rcases Slot.cases n with rfl | rfl | rfl | rfl <;> rfl

/-- Two quads that agree in every slot are equal. -/
theorem Quad.ext_get {α : Type} {p q : Quad α} (h : ∀ n, p.get n = q.get n) : p = q := by
  cases p; cases q
  have h0 := h 0; have h1 := h 1; have h2 := h 2; have h3 := h 3
  simp only [Quad.get_zero, Quad.get_one, Quad.get_two, Quad.get_three] at h0 h1 h2 h3
  simp [h0, h1, h2, h3]

/-- Reading a channel after writing one. -/
theorem Pixel.get_set (p : Pixel) (c d : Channel) (v : Half) :
    (p.set c v).get d = if d = c then v else p.get d := by
  cases c <;> cases d <;> rfl

/-! ### Completion and error -/

@[simp] theorem recordError_none (c : CoreError) : recordError none c = some c := rfl
@[simp] theorem recordError_some (e c : CoreError) : recordError (some e) c = some e := rfl

/-- A command whose pseudocode writes its destinations completes with them. -/
theorem runCommand_ok {body : State → Except CoreError State} {s t : State} (h : body s = .ok t) :
    runCommand body s = .next t.complete := by simp [runCommand, h]

/-- A command whose pseudocode raises leaves the state of the raised error. -/
theorem runCommand_error {body : State → Except CoreError State} {s : State} {c : CoreError}
    (h : body s = .error c) : runCommand body s = .next (s.raiseError c) := by simp [runCommand, h]

/-- All a completion step can do. -/
theorem runCommand_cases {body : State → Except CoreError State} {s t : State}
    (h : runCommand body s = .next t) :
    (∃ u, body s = .ok u ∧ t = u.complete) ∨ (∃ c, body s = .error c ∧ t = s.raiseError c) := by
  unfold runCommand at h
  split at h
  · exact .inl ⟨_, ‹_›, by simpa using h.symm⟩
  · exact .inr ⟨_, ‹_›, by simpa using h.symm⟩

/-- A completion step always answers a next state. -/
theorem runCommand_next (body : State → Except CoreError State) (s : State) :
    ∃ t, runCommand body s = .next t := by
  cases h : body s with
  | ok u => exact ⟨_, runCommand_ok h⟩
  | error c => exact ⟨_, runCommand_error h⟩

/-! ### One step -/

theorem completing_none_of_pending {s : State} (h : s.pending = none) : s.completing = none := by
  simp [State.completing, h]

theorem completing_none_of_wait {s : State} (h : s.wait ≠ 0) : s.completing = none := by
  simp [State.completing, h]

theorem completing_some_iff {s : State} {v : Word32} :
    s.completing = some v ↔ s.wait = 0 ∧ s.pending = some v := by
  unfold State.completing; split <;> simp_all

/-- A step in which no command completes is a bus cycle. -/
theorem step_busCycle {s : State} (h : s.completing = none) : step s = .next (busCycle s) := by
  simp [step, h]

/-- A step that answers a next state is a bus cycle or the completion of the pending command. -/
theorem step_cases {s t : State} (h : step s = .next t) :
    (s.completing = none ∧ t = busCycle s) ∨
    (∃ v i, s.completing = some v ∧ decode v = .ok i ∧ exec i s = .next t) := by
  unfold step at h
  split at h
  · exact .inl ⟨‹_›, by simpa using h.symm⟩
  · split at h
    · exact .inr ⟨_, _, ‹_›, ‹_›, h⟩
    · cases h

/-- The cycle of an idle bus. -/
theorem busCycle_nil {s : State} (h : s.bus = []) : busCycle s = { s with wait := s.wait - 1 } := by
  simp [busCycle, h]

/-- The cycle of a bus event. -/
theorem busCycle_cons {s : State} {e : BusEvent} {rest : List BusEvent} (h : s.bus = e :: rest) :
    busCycle s = busEvent e { s with wait := s.wait - 1, bus := rest } := by
  simp [busCycle, h]

/-! ### Issue -/

/-- All a write to CMD can do (30_encoding.md R87). -/
theorem issue_cases (v : Word32) (s : State) :
    (s.err ≠ none ∧ issue v s = s) ∨
    (s.err = none ∧ s.busy = true ∧ issue v s = { s with err := some .cmdWhileBusy }) ∨
    (s.err = none ∧ s.busy = false ∧ (∃ e, decode v = .error e) ∧
      issue v s = { s with cmd := v, done := true, err := some .illegalCmd }) ∨
    (∃ i, s.err = none ∧ s.busy = false ∧ decode v = .ok i ∧
      issue v s = { s with
        cmd := v, done := false, busy := true, pending := some v
        wait := Config.lat v s.issues, issues := s.issues + 1 }) := by
  unfold issue
  by_cases he : s.err = none
  · by_cases hb : s.busy = true
    · exact .inr (.inl ⟨he, hb, by simp [he, hb]⟩)
    · cases hd : decode v with
      | error e => exact .inr (.inr (.inl ⟨he, by simpa using hb, ⟨e, rfl⟩, by simp [he, hb]⟩))
      | ok i => exact .inr (.inr (.inr ⟨i, he, by simpa using hb, rfl, by simp [he, hb]⟩))
  · exact .inl ⟨he, by simp [he]⟩

end Sys2Proof.Machine
end

