-- ==== Sys2Proof/Laws/Bus.lean ====
section
/-! SUPPORT. All that a bus access can do to the core, said once (20_memory.md R62, R63, R66;
70_reset_and_hazards.md R275). -/

namespace Sys2Proof.Machine

/-- A read has no side effect: it leaves a response, and may draw a free value (20_memory.md R66). -/
theorem busRead_frame (off : Byte) (size : Nat) (s : State) :
    ∃ d r, busRead off size s = { s with draws := d, resp := r } := by
  unfold busRead
  split
  · split
    · exact ⟨s.draws, _, rfl⟩
    · split
      · exact ⟨s.draws + 1, _, rfl⟩
      · exact ⟨s.draws, _, rfl⟩
  · exact ⟨s.draws + 1, _, rfl⟩

/-- A write is a bus error, a write to a reserved offset, or a write to one register. -/
theorem busWrite_cases (off : Byte) (size : Nat) (v : Word32) (s : State) :
    (definedAccess off size = false ∧ busWrite off size v s = { s with resp := .writeError }) ∨
    (definedAccess off size = true ∧ regAt off = none ∧
      busWrite off size v s = { s with resp := .writeDone }) ∨
    (∃ r, definedAccess off size = true ∧ regAt off = some r ∧
      busWrite off size v s = { writeReg r v s with resp := .writeDone }) := by
  unfold busWrite
  by_cases h : definedAccess off size = true
  · cases hr : regAt off with
    | none => exact .inr (.inl ⟨h, rfl, by simp [h]⟩)
    | some r => exact .inr (.inr ⟨r, h, rfl, by simp [h]⟩)
  · exact .inl ⟨by simpa using h, by simp [h]⟩

/-- A write to one register is CTRL's, STATUS's or CMD's own, dropped, or a store. -/
theorem writeReg_cases (r : Reg) (v : Word32) (s : State) :
    (r = .ctrl ∧ writeReg r v s = writeCtrl v s) ∨
    (r = .status ∧ writeReg r v s = writeStatus v s) ∨
    (r = .cmd ∧ writeReg r v s = issue v s) ∨
    (r ≠ .ctrl ∧ r ≠ .status ∧ r ≠ .cmd ∧ s.busy = true ∧ writeReg r v s = s) ∨
    (r ≠ .ctrl ∧ r ≠ .status ∧ r ≠ .cmd ∧ s.busy = false ∧ writeReg r v s = storeReg r v s) := by
  cases hb : s.busy <;> cases r <;> simp [writeReg, hb]

/-- Either reset gives the reset state, but for what is not the core's (70_reset_and_hazards.md R270,
R271). -/
theorem resetCore_eq (s : State) :
    s.resetCore = { State.reset with
      chromaTable := s.chromaTable, issues := s.issues, draws := s.draws, bus := s.bus,
      resp := s.resp } := rfl

end Sys2Proof.Machine
end

