-- ==== Sys2Proof/Laws/Decode.lean ====
section
/-! SUPPORT. A command word is its five fields, and the match and mask test works field by field
(30_encoding.md R80, R86). -/

namespace Sys2Proof

/-- The fields of an assembled word are the fields it was assembled from. -/
@[simp] theorem ofWord_assemble (f : CmdFields) : CmdFields.ofWord (assemble f) = f := by
  obtain ⟨o, s, r, w, l⟩ := f
  simp only [CmdFields.ofWord, assemble, CmdFields.mk.injEq]
  refine ⟨?_, ?_, ?_, ?_, ?_⟩ <;>
    (apply BitVec.eq_of_getLsbD_eq; intro i hi
     simp only [BitVec.getLsbD_extractLsb', BitVec.getLsbD_append, hi, decide_true, Bool.true_and]
     split_ifs <;> first | omega | (congr 1; omega))

/-- A word is assembled from its fields: the format has no other bit. -/
@[simp] theorem assemble_ofWord (v : Word32) : assemble (CmdFields.ofWord v) = v := by
  apply BitVec.eq_of_getLsbD_eq; intro i hi
  simp only [CmdFields.ofWord, assemble, BitVec.getLsbD_extractLsb', BitVec.getLsbD_append]
  split_ifs with h1 h2 h3 h4
  · simp [h1]
  · simp only [h2, decide_true, Bool.true_and]; congr 1; omega
  · simp only [h3, decide_true, Bool.true_and]; congr 1; omega
  · simp only [h4, decide_true, Bool.true_and]; congr 1; omega
  · rw [decide_eq_true (by omega : i - 8 - 2 - 6 - 8 < 8), Bool.true_and]; congr 1; omega

/-- Words with the same bits have the same fields. -/
theorem assemble_injective {f g : CmdFields} (h : assemble f = assemble g) : f = g := by
  rw [← ofWord_assemble f, h, ofWord_assemble]

/-- A mask on a concatenation is a mask on each part. -/
theorem and_of_append {m n : Nat} (a c : BitVec m) (b d : BitVec n) :
    (a ++ b) &&& (c ++ d) = (a &&& c) ++ (b &&& d) := by
  apply BitVec.eq_of_getLsbD_eq; intro i hi
  simp only [BitVec.getLsbD_and, BitVec.getLsbD_append]; split <;> rfl

/-- A mask on a word is a mask on each field. -/
theorem assemble_and (f g : CmdFields) : assemble f &&& assemble g =
    assemble ⟨f.opc &&& g.opc, f.s &&& g.s, f.rsv &&& g.rsv, f.w &&& g.w, f.l &&& g.l⟩ := by
  show ((f.l ++ f.w ++ f.rsv ++ f.s ++ f.opc : BitVec (8 + 8 + 6 + 2 + 8)) &&&
    (g.l ++ g.w ++ g.rsv ++ g.s ++ g.opc : BitVec (8 + 8 + 6 + 2 + 8))) = _
  simp only [and_of_append]; rfl

/-- A row hits a word exactly when it hits every field of it. -/
theorem hits_assemble (r : OpRow) (m k f : CmdFields) (hm : r.matchBits = assemble m)
    (hk : r.mask = assemble k) :
    r.hits (assemble f) = true ↔ f.opc &&& k.opc = m.opc ∧ f.s &&& k.s = m.s ∧
      f.rsv &&& k.rsv = m.rsv ∧ f.w &&& k.w = m.w ∧ f.l &&& k.l = m.l := by
  rw [OpRow.hits, hm, hk, assemble_and, beq_iff_eq]
  constructor
  · intro h; have := assemble_injective h; cases m; simp_all
  · rintro ⟨h1, h2, h3, h4, h5⟩; cases m; simp_all

/-- What the decoder reads from an assembled word: the first row that hits it, its operands the
fields S, W and L. -/
theorem decode_assemble (f : CmdFields) :
    decode (assemble f) =
      match opRows.find? (fun r => r.hits (assemble f)) with
      | some r => .ok (r.build f.s f.w f.l)
      | none => .error (illegalReason (assemble f)) := by
  have h := ofWord_assemble f
  have h1 : (assemble f).extractLsb' 8 2 = f.s := congrArg CmdFields.s h
  have h2 : (assemble f).extractLsb' 16 8 = f.w := congrArg CmdFields.w h
  have h3 : (assemble f).extractLsb' 24 8 = f.l := congrArg CmdFields.l h
  show (match opRows.find? (fun r => r.hits (assemble f)) with
    | some r => Except.ok (r.build ((assemble f).extractLsb' 8 2) ((assemble f).extractLsb' 16 8)
        ((assemble f).extractLsb' 24 8))
    | none => .error (illegalReason (assemble f))) = _
  rw [h1, h2, h3]

end Sys2Proof
end

