-- ==== Sys2Proof/Laws/Numeric.lean ====
section
/-! SUPPORT. The shared arithmetic said once: clamping as a greatest and a least, and when the width
checks, the fit tests and the insertions of the bit-field unit answer. -/

namespace Sys2Proof.Machine

/-- Clamping rationals is a greatest of a least (00_scope.md R10). -/
theorem clampRat_eq (v lo hi : Rat) (h : lo ≤ hi) : clampRat v lo hi = max lo (min hi v) := by
  unfold clampRat
  split
  · exact (max_eq_left ((min_le_right _ _).trans (le_of_lt ‹_›))).symm
  · split
    · rw [min_eq_left (le_of_lt ‹_›), max_eq_right h]
    · rw [min_eq_right (not_lt.mp ‹_›), max_eq_right (not_lt.mp ‹_›)]

/-- Clamping integers is a greatest of a least (00_scope.md R10). -/
theorem clampInt_eq (v lo hi : Int) (h : lo ≤ hi) : clampInt v lo hi = max lo (min hi v) := by
  unfold clampInt
  split <;> (try split) <;> omega

/-- The width check of the fit tests passes up to 64 (40_bitfield.md R101). -/
theorem checkWidth_ok_iff {w : Nat} : checkWidth w = .ok () ↔ w ≤ 64 := by
  unfold checkWidth
  split
  · exact ⟨nofun, fun h => absurd h (by omega)⟩
  · exact ⟨fun _ => by omega, fun _ => rfl⟩

/-- The width check raises only INVALID_WIDTH. -/
theorem checkWidth_error {w : Nat} (h : 64 < w) : checkWidth w = .error .invalidWidth := by
  simp [checkWidth, h]

/-- The field check passes where the field lies in the word (40_bitfield.md R101). -/
theorem checkField_ok_iff {w l : Nat} : checkField w l = .ok () ↔ w + l ≤ 64 := by
  unfold checkField
  split
  · exact ⟨nofun, fun h => absurd h (by omega)⟩
  · exact ⟨fun _ => by omega, fun _ => rfl⟩

/-- The field check raises only INVALID_WIDTH. -/
theorem checkField_error {w l : Nat} (h : 64 < w + l) :
    checkField w l = .error .invalidWidth := by
  unfold checkField
  split
  · rfl
  · omega

/-- `set_u` where the field lies in the word and the value fits. -/
theorem setU_ok {word value : Word64} {w l : Nat} (h : w + l ≤ 64) (hf : fitsU value w = true) :
    setU word w l value = .ok (insertField word w l value) := by
  simp [setU, checkField_ok_iff.mpr h, hf]

/-- `set_s` where the field lies in the word and the value fits. -/
theorem setS_ok {word value : Word64} {w l : Nat} (h : w + l ≤ 64) (hf : fitsS value w = true) :
    setS word w l value = .ok (insertField word w l value) := by
  simp [setS, checkField_ok_iff.mpr h, hf]

/-- `set_u` where the field lies in the word and the value does not fit. -/
theorem setU_overflow {word value : Word64} {w l : Nat} (h : w + l ≤ 64)
    (hf : fitsU value w = false) : setU word w l value = .error .overflow := by
  simp [setU, checkField_ok_iff.mpr h, hf]

/-- `set_s` where the field lies in the word and the value does not fit. -/
theorem setS_overflow {word value : Word64} {w l : Nat} (h : w + l ≤ 64)
    (hf : fitsS value w = false) : setS word w l value = .error .overflow := by
  simp [setS, checkField_ok_iff.mpr h, hf]

/-- `set_u` on a field that does not lie in the word, whatever the value. -/
theorem setU_invalid {word value : Word64} {w l : Nat} (h : 64 < w + l) :
    setU word w l value = .error .invalidWidth := by
  simp [setU, checkField_error h]

/-- `set_s` on a field that does not lie in the word, whatever the value. -/
theorem setS_invalid {word value : Word64} {w l : Nat} (h : 64 < w + l) :
    setS word w l value = .error .invalidWidth := by
  simp [setS, checkField_error h]

end Sys2Proof.Machine
end

