-- ==== Sys2Proof/Laws/PerInstr.lean ====
section
/-! SUPPORT. A statement about every command as syntax, one lemma per constructor: its word has legal
fields (30_encoding.md R83), so a command is well formed at every value of its operands. -/

namespace Sys2Proof.Laws.FieldsLegal

set_option Elab.async false

/-- The fields of the command's word are legal (30_encoding.md R83). -/
def Statement (i : Instr) : Prop := i.WellFormed = true

/-- Only the OPC field is not 0: the check is one evaluation. -/
theorem nop : Statement .nop := by unfold Statement; decide

theorem ccFwd (s : Slot) : Statement (.ccFwd s) := by
  unfold Statement; revert s; decide

theorem ccInv (s : Slot) : Statement (.ccInv s) := by
  unfold Statement; revert s; decide

theorem ccFwd4 : Statement .ccFwd4 := by unfold Statement; decide

theorem ccInv4 : Statement .ccInv4 := by unfold Statement; decide

theorem dctFwd : Statement .dctFwd := by unfold Statement; decide

theorem dctInv : Statement .dctInv := by unfold Statement; decide

theorem cqFwd : Statement .cqFwd := by unfold Statement; decide

theorem cqInv : Statement .cqInv := by unfold Statement; decide

theorem pack : Statement .pack := by unfold Statement; decide

theorem unpack : Statement .unpack := by unfold Statement; decide

theorem encBlock : Statement .encBlock := by unfold Statement; decide

theorem decBlock : Statement .decBlock := by unfold Statement; decide

theorem bfFitsU (w : Byte) : Statement (.bfFitsU w) := by
  unfold Statement Instr.WellFormed; simp [encode, ofWord_assemble, CmdFields.legal, fieldsUsed]

theorem bfFitsS (w : Byte) : Statement (.bfFitsS w) := by
  unfold Statement Instr.WellFormed; simp [encode, ofWord_assemble, CmdFields.legal, fieldsUsed]

theorem bfGetU (w l : Byte) : Statement (.bfGetU w l) := by
  unfold Statement Instr.WellFormed; simp [encode, ofWord_assemble, CmdFields.legal, fieldsUsed]

theorem bfGetS (w l : Byte) : Statement (.bfGetS w l) := by
  unfold Statement Instr.WellFormed; simp [encode, ofWord_assemble, CmdFields.legal, fieldsUsed]

theorem bfSetU (w l : Byte) : Statement (.bfSetU w l) := by
  unfold Statement Instr.WellFormed; simp [encode, ofWord_assemble, CmdFields.legal, fieldsUsed]

theorem bfSetS (w l : Byte) : Statement (.bfSetS w l) := by
  unfold Statement Instr.WellFormed; simp [encode, ofWord_assemble, CmdFields.legal, fieldsUsed]

theorem blkStart : Statement .blkStart := by unfold Statement; decide

theorem blkNext : Statement .blkNext := by unfold Statement; decide

end Sys2Proof.Laws.FieldsLegal
end

