-- ==== Sys2Proof/Tests/Slice0.lean ====
section
/-! SUPPORT. Tests. Expected values come from spec/95_test_vectors.md (the part is named at each test)
or from the spec's encodings; the witnesses show, for every obligation with hypotheses, a state and
operands that meet them together, clause by clause. -/

namespace Sys2Proof.Tests

open Sys2Proof Sys2Proof.Machine

set_option Elab.async false

/-! ### Well-formedness: each check of 30_encoding.md R83 refuses an ill-formed term -/

theorem test_legal_accepts_spec_word : (CmdFields.mk 0x55 0 0 6 20).legal = true := by decide

theorem test_legal_refuses_unassigned_opcode : (CmdFields.mk 0x05 0 0 0 0).legal = false := by decide

theorem test_legal_refuses_reserved_field : (CmdFields.mk 0x01 3 1 0 0).legal = false := by decide

theorem test_legal_refuses_unused_slot : (CmdFields.mk 0x03 1 0 0 0).legal = false := by decide

theorem test_legal_refuses_unused_width : (CmdFields.mk 0x01 3 0 1 0).legal = false := by decide

theorem test_legal_refuses_unused_lsb : (CmdFields.mk 0x50 0 0 6 1).legal = false := by decide

theorem test_decode_refuses_unassigned_opcode :
    decode 0x00000005 = .error (.unassignedOpcode 0x05) := by decide

theorem test_decode_refuses_reserved_field : decode 0x00000701 = .error .reservedNotZero := by decide

theorem test_decode_refuses_unused_lsb : decode 0x01060050 = .error .unusedFieldNotZero := by decide

theorem test_decode_refuses_short_bytes : decodeBytes [0x00, 0x00] = .error .notOneWord := by decide

/-! ### Decoding: one word of every command, written out as `(L << 24) | (W << 16) | (S << 8) | OPC`
(30_encoding.md R80, R82) -/

theorem test_decode_nop : decode 0x00000000 = .ok .nop := by decide
theorem test_decode_ccFwd : decode 0x00000301 = .ok (.ccFwd 3) := by decide
theorem test_decode_ccInv : decode 0x00000102 = .ok (.ccInv 1) := by decide
theorem test_decode_ccFwd4 : decode 0x00000003 = .ok .ccFwd4 := by decide
theorem test_decode_ccInv4 : decode 0x00000004 = .ok .ccInv4 := by decide
theorem test_decode_dctFwd : decode 0x00000010 = .ok .dctFwd := by decide
theorem test_decode_dctInv : decode 0x00000011 = .ok .dctInv := by decide
theorem test_decode_cqFwd : decode 0x00000020 = .ok .cqFwd := by decide
theorem test_decode_cqInv : decode 0x00000021 = .ok .cqInv := by decide
theorem test_decode_pack : decode 0x00000030 = .ok .pack := by decide
theorem test_decode_unpack : decode 0x00000031 = .ok .unpack := by decide
theorem test_decode_encBlock : decode 0x00000040 = .ok .encBlock := by decide
theorem test_decode_decBlock : decode 0x00000041 = .ok .decBlock := by decide
theorem test_decode_bfFitsU : decode 0x00410050 = .ok (.bfFitsU 65) := by decide
theorem test_decode_bfFitsS : decode 0x003F0051 = .ok (.bfFitsS 63) := by decide
theorem test_decode_bfGetU : decode 0x02060052 = .ok (.bfGetU 6 2) := by decide
theorem test_decode_bfGetS : decode 0x20210053 = .ok (.bfGetS 33 32) := by decide
theorem test_decode_bfSetU : decode 0x3A060054 = .ok (.bfSetU 6 58) := by decide
theorem test_decode_bfSetS : decode 0x14060055 = .ok (.bfSetS 6 20) := by decide
theorem test_decode_blkStart : decode 0x00000060 = .ok .blkStart := by decide
theorem test_decode_blkNext : decode 0x00000061 = .ok .blkNext := by decide

/-- The first byte of the word is byte lane 0 (20_memory.md R64). -/
theorem test_decode_lanes : decodeBytes [0x55, 0x00, 0x06, 0x14] = .ok (.bfSetS 6 20) := by decide

theorem test_decodeTableWord : decodeTableWord 32 0x08060052 = some (.bfGetU 6 8) := by decide

theorem test_decodeTableWord_refuses : decodeTableWord 32 0xFF = none := by decide

/-! ### Small states -/

/-- Reset, with what the host will present. -/
def onBus (s : State) (e : BusEvent) : State := { s with bus := [e] }

/-- A core that has accepted the command word `v` with `n` cycles of LAT to go. -/
def busyWith (v : Word32) (n : Nat) : State := { State.reset.acceptedNow v with wait := n }

/-- A core in the error state (60_exceptions.md R243). -/
def inError (c : CoreError) : State := { State.reset with err := some c, done := true }

/-- The bit-field operand registers. -/
def withBf (word value : Word64) : State :=
  { State.reset with
    bfWordLo := low32 word, bfWordHi := high32 word
    bfValueLo := low32 value, bfValueHi := high32 value }

/-- The codeword registers. -/
def withCw (a : Nat) (b c d : Int) (pb pr : Nat) : State :=
  { State.reset with
    cwA := BitVec.ofNat 32 a, cwB := BitVec.ofInt 32 b, cwC := BitVec.ofInt 32 c
    cwD := BitVec.ofInt 32 d, cwPb := BitVec.ofNat 32 pb, cwPr := BitVec.ofNat 32 pr }

/-- DENOM, and the same pixel in every slot. -/
def withPixels (d r g b : Half) : State := { State.reset with denom := d, pix := .all ⟨r, g, b⟩ }

/-- The luma samples. -/
def withLuma (y0 y1 y2 y3 : Rat) : State := { State.reset with y := ⟨y0, y1, y2, y3⟩ }

/-- A walk over a grid of 3 by 2 blocks at a position. -/
def walkAt (col row : Half) : State :=
  { State.reset with geomTw := 6, geomTh := 4, bposCol := col, bposRow := row, bend := false }

/-! ### One command at a time (spec/95_test_vectors.md, part 2 unless said) -/

theorem test_nop_irq : (afterCommand .nop { State.reset with ieDone := true }).irq = true := by decide

/-- 2.2: DENOM = 255, PIX0 = (255, 0, 0). -/
theorem test_ccFwd_red :
    (afterCommand (.ccFwd 0) (withPixels 255 255 0 0)).sample 0 =
      ⟨299 / 1000, -5273 / 31250, 1 / 2⟩ := by decide +kernel

/-- 2.2: DENOM = 0. -/
theorem test_ccFwd_denom_zero :
    (afterCommand (.ccFwd 1) (withPixels 0 1 2 3)).err = some .denomZero := by decide

/-- 2.2: Y[0] = 3/400, a half away from zero. -/
theorem test_ccInv_half :
    (afterCommand (.ccInv 0) (withLuma (3 / 400) 0 0 0)).pix.s0 = ⟨2, 2, 2⟩ := by decide +kernel

/-- 2.2: clamped. -/
theorem test_ccInv_clamps :
    (afterCommand (.ccInv 2) (withLuma 0 0 100 0)).pix = ⟨⟨0, 0, 0⟩, ⟨0, 0, 0⟩, ⟨200, 200, 200⟩, ⟨0, 0, 0⟩⟩ := by
  decide +kernel

/-- 2.2: DENOM = 200, slots 1 and 3 white. -/
theorem test_ccFwd4_luma :
    (afterCommand .ccFwd4 { withPixels 200 0 0 0 with
      pix := ⟨⟨0, 0, 0⟩, ⟨200, 200, 200⟩, ⟨0, 0, 0⟩, ⟨200, 200, 200⟩⟩ }).y = ⟨0, 1, 0, 1⟩ := by
  decide +kernel

theorem test_ccFwd4_denom_zero :
    (afterCommand .ccFwd4 (withPixels 0 9 9 9)).err = some .denomZero := by decide

/-- 2.2: Y = 0, PB = PR = 0.35. -/
theorem test_ccInv4_chroma :
    (afterCommand .ccInv4 { State.reset with pb := .all (35 / 100), pr := .all (35 / 100) }).pix =
      .all ⟨98, 0, 124⟩ := by decide +kernel

/-- 2.4: c = 0.5 saturates to 30. -/
theorem test_dctFwd_saturates :
    (afterCommand .dctFwd (withLuma 0 1 0 1)).lumaCode = ⟨32, 0, 30, 0⟩ := by decide +kernel

/-- 2.4: halves away from zero below 0. -/
theorem test_dctFwd_negative :
    (afterCommand .dctFwd (withLuma (2 / 100) 0 0 0)).lumaCode = ⟨0, -1, -1, 1⟩ := by decide +kernel

/-- 2.4: codes past the range are taken as they are. -/
theorem test_dctInv_any_code :
    (afterCommand .dctInv (withCw 0 (-32) (-32) (-32) 0 0)).y = ⟨8 / 25, 8 / 25, 8 / 25, -24 / 25⟩ := by
  decide +kernel

/-- 2.4: CW_A is unsigned. -/
theorem test_dctInv_unsigned :
    (afterCommand .dctInv (withCw 0xFFFFFFFF 0 0 0 0 0)).y = .all (4294967295 / 63) := by
  decide +kernel

/-- 2.3: four red pixels. -/
theorem test_cqFwd_red :
    (afterCommand .cqFwd { State.reset with
      pb := .all (-168736 / 1000000), pr := .all (1 / 2) }).cwPb = 2 := by decide +kernel

/-- 2.3: index_of_chroma(0) = 7, the lower of the two nearest. -/
theorem test_cqFwd_tie : (afterCommand .cqFwd State.reset).cwPr = 7 := by decide +kernel

/-- 2.3: CW_PB = 2, CW_PR = 15. -/
theorem test_cqInv :
    (afterCommand .cqInv (withCw 0 0 0 0 2 15)).pr = .all (35 / 100) := by decide +kernel

/-- 2.3: CW_PB = 16. -/
theorem test_cqInv_range :
    (afterCommand .cqInv (withCw 0 0 0 0 16 0)).err = some .indexRange := by decide

/-- 1.4. -/
theorem test_pack : (afterCommand .pack (withCw 63 (-32) 31 (-1) 15 0)).word = 0xFE07FFF0 := by decide

/-- 2.5: (0, -33, 0, 0, 0, 0). -/
theorem test_pack_overflow :
    (afterCommand .pack (withCw 0 (-33) 0 0 0 0)).err = some .overflow := by decide

/-- 2.5: WORD = 0x12345678. -/
theorem test_unpack :
    (afterCommand .unpack { State.reset with word := 0x12345678 }).lumaCode = ⟨4, -29, 17, 22⟩ := by
  decide

theorem test_unpack_chroma :
    (afterCommand .unpack { State.reset with word := 0x12345678 }).cwPr = 8 := by decide

/-- 1.1: a gray block. -/
theorem test_encBlock_gray :
    (afterCommand .encBlock (withPixels 200 100 100 100)).word = 0x80000077 := by decide +kernel

theorem test_encBlock_denom_zero :
    (afterCommand .encBlock (withPixels 0 1 1 1)).err = some .denomZero := by decide

/-- 1.1: the gray block's word. -/
theorem test_decBlock_gray :
    (afterCommand .decBlock { State.reset with word := 0x80000077 }).pix = .all ⟨99, 104, 98⟩ := by
  decide +kernel

/-- 2.1: W = 63, 2^63. -/
theorem test_bfFitsU_top : (afterCommand (.bfFitsU 63) (withBf 0 0x8000000000000000)).bfResult = 0 := by
  decide

/-- 2.1: W = 65. -/
theorem test_bfFitsU_width : (afterCommand (.bfFitsU 65) (withBf 0 0)).err = some .invalidWidth := by
  decide

/-- 2.1: W = 6, -32. -/
theorem test_bfFitsS_low : (afterCommand (.bfFitsS 6) (withBf 0 (-32))).bfResult = 1 := by decide

/-- 2.1: W = 63, 2^62. -/
theorem test_bfFitsS_high :
    (afterCommand (.bfFitsS 63) (withBf 0 0x4000000000000000)).bfResult = 0 := by decide

/-- 2.1: W = 6, L = 2 of 0x3F4. -/
theorem test_bfGetU : (afterCommand (.bfGetU 6 2) (withBf 0x3F4 0)).bfResult = 0x3D := by decide

/-- 2.1: W = 0, L = 65. -/
theorem test_bfGetU_invalid : (afterCommand (.bfGetU 0 65) (withBf 1 1)).err = some .invalidWidth := by
  decide

/-- 2.1: W = 6, L = 2 of 0x3F4 is -3. -/
theorem test_bfGetS : (afterCommand (.bfGetS 6 2) (withBf 0x3F4 0)).bfResult = -3 := by decide

/-- 2.1: W = 8, L = 56. -/
theorem test_bfGetS_positive :
    (afterCommand (.bfGetS 8 56) (withBf 0x0123456789ABCDEF 0)).bfResult = 1 := by decide

/-- 1.3: BF_VALUE = 0x2A into all ones. -/
theorem test_bfSetU :
    (afterCommand (.bfSetU 6 8) (withBf 0xFFFFFFFFFFFFFFFF 0x2A)).bfResult = 0xFFFFFFFFFFFFEAFF := by
  decide

/-- 2.1: W = 6, L = 59: the width check comes before the fit check. -/
theorem test_bfSetU_invalid :
    (afterCommand (.bfSetU 6 59) (withBf 0 64)).err = some .invalidWidth := by decide

/-- 1.3: BF_VALUE = -5. -/
theorem test_bfSetS : (afterCommand (.bfSetS 6 8) (withBf 0 (-5))).bfResult = 0x3B00 := by decide

/-- 2.1: W = 6, 32. -/
theorem test_bfSetS_overflow : (afterCommand (.bfSetS 6 0) (withBf 0 32)).err = some .overflow := by
  decide

/-- 1.2: a 5 by 3 frame is trimmed to 4 by 2. -/
theorem test_blkStart :
    readReg (afterCommand .blkStart { State.reset with frameW := 5, frameH := 3 }) .geom = 0x00020004 := by
  decide

/-- 45_block.md R204: no block where a dimension is below 2. -/
theorem test_blkStart_empty :
    (afterCommand .blkStart { State.reset with frameW := 1, frameH := 9 }).bend = true := by decide

/-- 45_block.md R205: the end of a row. -/
theorem test_blkNext_row : readReg (afterCommand .blkNext (walkAt 2 0)) .bpos = 0x00010000 := by decide

/-- 45_block.md R205: the last block. -/
theorem test_blkNext_end : (afterCommand .blkNext (walkAt 2 1)).bend = true := by decide

/-! ### The bus and the life cycle -/

/-- The state a step leaves; its argument where the step stops. -/
def next (s : State) : State :=
  match step s with
  | .next t => t
  | .fault _ => s
  | .refused _ => s

/-- 45_block.md R208: NOP accepted now completes in the next step. -/
theorem test_step_nop : (next (State.reset.withFetchWord 32 0)).done = true := by decide

/-- 30_encoding.md R87 case 3. -/
theorem test_issue_illegal :
    (next (onBus State.reset (.write 0x0C 4 0x00000005))).err = some .illegalCmd := by decide

/-- 95_test_vectors.md P5: a CMD write while BUSY. -/
theorem test_issue_busy :
    (next (onBus (busyWith 0 1) (.write 0x0C 4 0x61))).statusWord = 0x51 := by decide

/-- 20_memory.md R62: a 2-byte read. -/
theorem test_read_two_bytes :
    (next (onBus State.reset (.read 0x08 2))).resp = .readError (Config.freeWord 0) := rfl

/-- 10_state.md R22. -/
theorem test_read_id : (next (onBus State.reset (.read 0x00 4))).resp = .readData 0x43503430 := by
  decide

/-! ### Witnesses: the hypotheses of each obligation, met together, clause by clause -/

theorem witness_DecodedWordIsTheCommandsWord : decode 0x14060055 = .ok (.bfSetS 6 20) := by decide

theorem witness_RegisterMapIsOneMap_below : 255 < 256 ∨ 256 + 256 ≤ 255 := by decide

theorem witness_RegisterMapIsOneMap_above : 512 < 256 ∨ 256 + 256 ≤ 512 := by decide

/-- What the clauses about an access at a register of the window share. -/
abbrev At (s : State) (off : Byte) (r : Reg) (e : BusEvent) : Prop :=
  BusCycleNext s ∧ regAt off = some r ∧ s.bus = e :: []

theorem witness_UndefinedAccessIsABusError_read :
    let s := onBus State.reset (.read 0x08 2)
    BusCycleNext s ∧ ¬(2 = 4 ∧ (0x08 : Byte).toNat % 4 = 0) ∧ s.bus = .read 0x08 2 :: [] :=
  ⟨.inl rfl, by decide, rfl⟩

theorem witness_UndefinedAccessIsABusError_write :
    let s := onBus (busyWith 0 1) (.write 0xFE 4 7)
    BusCycleNext s ∧ ¬(4 = 4 ∧ (0xFE : Byte).toNat % 4 = 0) ∧ s.bus = .write 0xFE 4 7 :: [] :=
  ⟨.inr (by decide), by decide, rfl⟩

theorem witness_ReservedOffsetReadsZeroIgnoresWrites_read :
    let s := onBus State.reset (.read 0xC0 4)
    BusCycleNext s ∧ (0xC0 : Byte).toNat % 4 = 0 ∧ 0xC0 ≤ (0xC0 : Byte).toNat ∧
      s.bus = .read 0xC0 4 :: [] := ⟨.inl rfl, by decide, by decide, rfl⟩

theorem witness_ReservedOffsetReadsZeroIgnoresWrites_write :
    let s := onBus State.reset (.write 0x1C 4 9)
    BusCycleNext s ∧ (0x1C : Byte).toNat % 4 = 0 ∧
      (0x14 ≤ (0x1C : Byte).toNat ∧ (0x1C : Byte).toNat ≤ 0x1C) ∧
      s.bus = .write 0x1C 4 9 :: [] := ⟨.inl rfl, by decide, by decide, rfl⟩

theorem witness_OnlyWritableFieldsAreWritten_readOnly :
    At (onBus State.reset (.write 0xBC 4 9)) 0xBC (.pxy 3) (.write 0xBC 4 9) ∧
      isReadOnly (.pxy 3) = true := ⟨⟨.inl rfl, by decide, rfl⟩, rfl⟩

theorem witness_OnlyWritableFieldsAreWritten_ctrl :
    At (onBus State.reset (.write 0x04 4 0x7FFFFFFF)) 0x04 .ctrl (.write 0x04 4 0x7FFFFFFF) ∧
      (0x7FFFFFFF : Word32).getLsbD 31 = false := ⟨⟨.inl rfl, by decide, rfl⟩, by decide⟩

theorem witness_OnlyWritableFieldsAreWritten_status :
    At (onBus (inError .overflow) (.write 0x08 4 2)) 0x08 .status (.write 0x08 4 2) :=
  ⟨.inl rfl, by decide, rfl⟩

theorem witness_StoredRegisterReadsBack :
    let s := onBus State.reset (.write 0x94 4 0x12345)
    BusCycleNext s ∧ s.busy = false ∧ regAt 0x94 = some .frameH ∧
      storableBits .frameH = some 0x0000FFFF ∧ s.bus = .write 0x94 4 0x12345 :: [] :=
  ⟨.inl rfl, rfl, by decide, rfl, rfl⟩

theorem witness_IssueFollowsItsFourCases_error :
    At (onBus (inError .overflow) (.write 0x0C 4 0)) 0x0C .cmd (.write 0x0C 4 0) ∧
      (onBus (inError .overflow) (.write 0x0C 4 0)).err ≠ none :=
  ⟨⟨.inl rfl, by decide, rfl⟩, by decide⟩

theorem witness_IssueFollowsItsFourCases_busy :
    let s := onBus (busyWith 0 1) (.write 0x0C 4 0)
    At s 0x0C .cmd (.write 0x0C 4 0) ∧ s.err = none ∧ s.busy = true :=
  ⟨⟨.inr (by decide), by decide, rfl⟩, rfl, rfl⟩

theorem witness_IssueFollowsItsFourCases_illegal :
    let s := onBus State.reset (.write 0x0C 4 5)
    At s 0x0C .cmd (.write 0x0C 4 5) ∧ s.err = none ∧ s.busy = false ∧ ∀ i, decode 5 ≠ .ok i :=
  ⟨⟨.inl rfl, by decide, rfl⟩, rfl, rfl, by
    intro i; rw [show decode 5 = .error (.unassignedOpcode 5) by decide]; nofun⟩

theorem witness_IssueFollowsItsFourCases_accepted :
    let s := onBus State.reset (.write 0x0C 4 0x60)
    At s 0x0C .cmd (.write 0x0C 4 0x60) ∧ s.err = none ∧ s.busy = false ∧
      decode 0x60 = .ok .blkStart := ⟨⟨.inl rfl, by decide, rfl⟩, rfl, rfl, by decide⟩

theorem witness_BusyDropsOperandWrites_operand :
    let s := onBus (busyWith 0x30 1) (.write 0x50 4 1)
    At s 0x50 .cwA (.write 0x50 4 1) ∧ s.busy = true ∧ Reg.cwA ≠ .ctrl ∧ Reg.cwA ≠ .status ∧
      Reg.cwA ≠ .cmd :=
  ⟨⟨.inr (by decide), by decide, rfl⟩, rfl, by decide, by decide, by decide⟩

theorem witness_BusyDropsOperandWrites_ctrl :
    let s := onBus (busyWith 0x30 1) (.write 0x04 4 3)
    At s 0x04 .ctrl (.write 0x04 4 3) ∧ s.busy = true ∧ (3 : Word32).getLsbD 31 = false :=
  ⟨⟨.inr (by decide), by decide, rfl⟩, rfl, by decide⟩

theorem witness_BusyDropsOperandWrites_reset :
    let s := onBus (busyWith 0x30 1) (.write 0x04 4 0x80000000)
    At s 0x04 .ctrl (.write 0x04 4 0x80000000) ∧ s.busy = true ∧
      (0x80000000 : Word32).getLsbD 31 = true :=
  ⟨⟨.inr (by decide), by decide, rfl⟩, rfl, by decide⟩

theorem witness_BusyDropsOperandWrites_status :
    let s := onBus (busyWith 0x30 1) (.write 0x08 4 2)
    At s 0x08 .status (.write 0x08 4 2) ∧ s.busy = true :=
  ⟨⟨.inr (by decide), by decide, rfl⟩, rfl⟩

theorem witness_BusyDropsOperandWrites_cmd :
    let s := onBus (busyWith 0x30 1) (.write 0x0C 4 0)
    At s 0x0C .cmd (.write 0x0C 4 0) ∧ s.busy = true :=
  ⟨⟨.inr (by decide), by decide, rfl⟩, rfl⟩

theorem witness_OnlyABusyReadOfADestinationIsFree_destination :
    let s := onBus (busyWith 0x30 1) (.read 0x68 4)
    At s 0x68 .word (.read 0x68 4) ∧ s.busy = true ∧ s.pending = some 0x30 ∧
      decode 0x30 = .ok .pack ∧ Reg.word ∈ destinations .pack :=
  ⟨⟨.inr (by decide), by decide, rfl⟩, rfl, rfl, by decide, by decide⟩

theorem witness_OnlyABusyReadOfADestinationIsFree_other :
    let s := onBus (busyWith 0x30 1) (.read 0x64 4)
    At s 0x64 .cwPr (.read 0x64 4) ∧ s.busy = true ∧ s.pending = some 0x30 ∧
      decode 0x30 = .ok .pack ∧ Reg.cwPr ∉ destinations .pack :=
  ⟨⟨.inr (by decide), by decide, rfl⟩, rfl, rfl, by decide, by decide⟩

theorem witness_OnlyABusyReadOfADestinationIsFree_idle :
    let s := onBus State.reset (.read 0x68 4)
    At s 0x68 .word (.read 0x68 4) ∧ s.busy = false := ⟨⟨.inl rfl, by decide, rfl⟩, rfl⟩

theorem witness_OnlyABusyReadOfADestinationIsFree_status :
    let s := onBus (busyWith 0x30 1) (.read 0x08 4)
    At s 0x08 .status (.read 0x08 4) ∧ s.busy = true := ⟨⟨.inr (by decide), by decide, rfl⟩, rfl⟩

theorem witness_HardResetRestoresResetValues :
    let s := onBus (busyWith 0x40 3) .hardReset
    BusCycleNext s ∧ s.bus = .hardReset :: [] := ⟨.inr (by decide), rfl⟩

theorem witness_SoftResetIsTheOnlyWayBack_reset :
    let s := onBus (inError .indexRange) (.write 0x04 4 0x80000003)
    BusCycleNext s ∧ s.bus = .write 0x04 4 0x80000003 :: [] ∧
      (0x80000003 : Word32).getLsbD 31 = true := ⟨.inl rfl, rfl, by decide⟩

theorem witness_SoftResetIsTheOnlyWayBack_cleared :
    let s := onBus (inError .indexRange) (.write 0x04 4 0x80000000)
    step s = .next (next s) ∧ s.err ≠ none ∧ (next s).err ≠ s.err :=
  ⟨rfl, by decide, by decide⟩

theorem witness_StepRunsThePendingCommand :
    (busyWith 0x31 0).pending = some 0x31 ∧ (busyWith 0x31 0).wait = 0 ∧
      decode 0x31 = .ok .unpack := ⟨rfl, rfl, by decide⟩

theorem witness_RaisingCommandWritesNothing :
    exec (.bfGetU 65 0) State.reset = .next (afterCommand (.bfGetU 65 0) State.reset) ∧
      (afterCommand (.bfGetU 65 0) State.reset).err ≠ State.reset.err := ⟨rfl, by decide⟩

theorem witness_CommandWritesOnlyItsDestinations :
    exec .pack (withCw 1 0 0 0 0 0) = .next (afterCommand .pack (withCw 1 0 0 0 0 0)) ∧
      Reg.cwA ∉ destinations .pack ∧ Reg.cwA ≠ .status ∧
      (Instr.pack = .blkNext → Reg.cwA ≠ .cwidx ∧ ∀ n, Reg.cwA ≠ .pxy n) :=
  ⟨rfl, by decide, by decide, nofun⟩

theorem witness_CommandWritesOnlyItsDestinations_blkNext :
    exec .blkNext (walkAt 0 0) = .next (afterCommand .blkNext (walkAt 0 0)) ∧
      Reg.geom ∉ destinations .blkNext ∧ Reg.geom ≠ .status ∧
      (Instr.blkNext = .blkNext → Reg.geom ≠ .cwidx ∧ ∀ n, Reg.geom ≠ .pxy n) :=
  ⟨rfl, by decide, by decide, fun _ => ⟨by decide, nofun⟩⟩

theorem witness_SampleFileHasOnlyItsWriters_ccFwd :
    exec (.ccFwd 3) (withPixels 255 1 2 3) = .next (afterCommand (.ccFwd 3) (withPixels 255 1 2 3)) ∧
      Instr.ccFwd 3 = .ccFwd 3 ∧ (0 : Slot) ≠ 3 := ⟨rfl, rfl, by decide⟩

theorem witness_SampleFileHasOnlyItsWriters_dctInv :
    exec .dctInv (withCw 63 1 2 3 0 0) = .next (afterCommand .dctInv (withCw 63 1 2 3 0 0)) := rfl

theorem witness_SampleFileHasOnlyItsWriters_cqInv :
    exec .cqInv (withCw 0 0 0 0 15 15) = .next (afterCommand .cqInv (withCw 0 0 0 0 15 15)) := rfl

theorem witness_SampleFileHasOnlyItsWriters_other :
    exec .unpack State.reset = .next (afterCommand .unpack State.reset) ∧
      (∀ n, Instr.unpack ≠ .ccFwd n) ∧ Instr.unpack ≠ .ccFwd4 ∧ Instr.unpack ≠ .encBlock ∧
      Instr.unpack ≠ .decBlock ∧ Instr.unpack ≠ .dctInv ∧ Instr.unpack ≠ .cqInv :=
  ⟨rfl, nofun, nofun, nofun, nofun, nofun, nofun⟩

/-- The tracking of a core that has just accepted a command. -/
theorem busyWith_tracking {v : Word32} {n : Nat} {i : Instr} (h : decode v = .ok i) :
    TrackingAgrees (busyWith v n) where
  busy_iff := rfl
  holds_cmd := fun _ h => by simpa [busyWith, State.acceptedNow] using h
  decodes := fun w hw => ⟨i, by
    have e : v = w := by simpa [busyWith, State.acceptedNow] using hw
    rw [← e]; exact h⟩
  not_done := fun _ => rfl
  error := fun _ => .inl rfl
  no_wait := nofun

/-- The walk of a core whose geometry is that of reset. -/
theorem busyWith_walk (v : Word32) (n : Nat) : WalkInGrid (busyWith v n) where
  tw_even := rfl
  th_even := rfl
  col_lt := nofun
  row_lt := nofun
  col_fits := by show 0 < 32767; decide
  row_fits := by show 0 < 32767; decide

theorem witness_ResultIsIndependentOfLatency :
    TrackingAgrees (busyWith 0x31 2) ∧ (busyWith 0x31 2).pending = some 0x31 ∧
      decode 0x31 = .ok .unpack ∧ ∀ e ∈ (busyWith 0x31 2).bus, NoReset e :=
  ⟨busyWith_tracking (i := .unpack) (by decide), rfl, by decide, nofun⟩

/-- The same with no cycle left, and a host that clears DONE and writes an operand. -/
theorem witness_ResultIsIndependentOfLatency_now :
    let s := { busyWith 0x31 0 with bus := [.write 0x08 4 2, .write 0x68 4 5] }
    TrackingAgrees s ∧ s.pending = some 0x31 ∧ decode 0x31 = .ok .unpack ∧
      ∀ e ∈ s.bus, NoReset e := by
  have h := busyWith_tracking (v := 0x31) (n := 0) (i := .unpack) (by decide)
  refine ⟨⟨h.1, h.2, h.3, h.4, h.5, h.6⟩, rfl, by decide, ?_⟩
  intro e he
  simp only [List.mem_cons, List.not_mem_nil, or_false] at he
  rcases he with rfl | rfl <;> simp [NoReset]

theorem witness_StepKeepsConsistent :
    Consistent (busyWith 0x60 0) ∧ step (busyWith 0x60 0) = .next (next (busyWith 0x60 0)) :=
  ⟨⟨busyWith_tracking (i := .blkStart) (by decide), busyWith_walk _ _⟩, rfl⟩

theorem witness_ConsistentCoreNeverStops : TrackingAgrees (busyWith 0x41 7) :=
  busyWith_tracking (i := .decBlock) (by decide)

theorem witness_BfFitsu_width : 64 < (65 : Byte).toNat := by decide

theorem witness_BfFitsu_fits :
    (64 : Byte).toNat ≤ 64 ∧ FitsUnsigned (valueNat (withBf 0 (-1))) (64 : Byte).toNat :=
  ⟨by decide, by decide, .inl (by decide)⟩

theorem witness_BfFitsu_does_not_fit :
    (63 : Byte).toNat ≤ 64 ∧
      ¬FitsUnsigned (valueNat (withBf 0 0x8000000000000000)) (63 : Byte).toNat :=
  ⟨by decide, by unfold FitsUnsigned; decide⟩

theorem witness_BfFitss_fits :
    (6 : Byte).toNat ≤ 64 ∧ FitsSigned (valueInt (withBf 0 (-32))) (6 : Byte).toNat :=
  ⟨by decide, by unfold FitsSigned; decide⟩

theorem witness_BfFitss_does_not_fit :
    (6 : Byte).toNat ≤ 64 ∧ ¬FitsSigned (valueInt (withBf 0 32)) (6 : Byte).toNat :=
  ⟨by decide, by unfold FitsSigned; decide⟩

/-- The width clauses of BF_FITSS, BF_GETU, BF_GETS, BF_SETU and BF_SETS. -/
theorem witness_Bf_invalid :
    64 < (255 : Byte).toNat ∧ 64 < (0 : Byte).toNat + (65 : Byte).toNat := by decide

/-- The extracting clauses of BF_GETU and BF_GETS, W = 0 among them. -/
theorem witness_BfGet_in_word :
    (64 : Byte).toNat + (0 : Byte).toNat ≤ 64 ∧ (0 : Byte).toNat + (64 : Byte).toNat ≤ 64 := by decide

theorem witness_BfGets_positive :
    (8 : Byte).toNat + (56 : Byte).toNat ≤ 64 ∧ (8 : Byte).toNat ≠ 0 ∧
      wordNat (withBf 0x0123456789ABCDEF 0) / 2 ^ (56 : Byte).toNat % 2 ^ (8 : Byte).toNat <
        2 ^ ((8 : Byte).toNat - 1) := by decide

theorem witness_BfGets_negative :
    (8 : Byte).toNat + (0 : Byte).toNat ≤ 64 ∧ (8 : Byte).toNat ≠ 0 ∧
      2 ^ ((8 : Byte).toNat - 1) ≤
        wordNat (withBf 0x0123456789ABCDEF 0) / 2 ^ (0 : Byte).toNat % 2 ^ (8 : Byte).toNat := by
  decide

theorem witness_BfSetu_overflow :
    (4 : Byte).toNat + (60 : Byte).toNat ≤ 64 ∧
      ¬FitsUnsigned (valueNat (withBf 0 16)) (4 : Byte).toNat :=
  ⟨by decide, by unfold FitsUnsigned; decide⟩

theorem witness_BfSetu_inserts :
    (4 : Byte).toNat + (60 : Byte).toNat ≤ 64 ∧
      FitsUnsigned (valueNat (withBf 0 15)) (4 : Byte).toNat :=
  ⟨by decide, by unfold FitsUnsigned; decide⟩

theorem witness_BfSets_overflow :
    (6 : Byte).toNat + (58 : Byte).toNat ≤ 64 ∧
      ¬FitsSigned (valueInt (withBf 0 (-33))) (6 : Byte).toNat :=
  ⟨by decide, by unfold FitsSigned; decide⟩

theorem witness_BfSets_inserts :
    (64 : Byte).toNat + (0 : Byte).toNat ≤ 64 ∧
      FitsSigned (valueInt (withBf 0 (-1))) (64 : Byte).toNat :=
  ⟨by decide, by unfold FitsSigned; decide⟩

theorem witness_ExtractedFieldIsTheInsertedValue :
    6 + 58 ≤ 64 ∧ fitsU 63 6 = true ∧ fitsS (-32) 6 = true := by decide

theorem witness_CcFwd_denom_zero : (withPixels 0 1 2 3).denom = 0 := rfl

theorem witness_CcFwd_converts : (withPixels 1 0xFFFF 0 0).denom ≠ 0 ∧ (1 : Slot) ≠ 0 := by decide

theorem witness_GrayHasNoChromaAndSamplesStayInRange_gray :
    (255 : Half) ≠ 0 ∧ (⟨9, 9, 9⟩ : Pixel).r = (⟨9, 9, 9⟩ : Pixel).g ∧
      (⟨9, 9, 9⟩ : Pixel).g = (⟨9, 9, 9⟩ : Pixel).b := by decide

theorem witness_GrayHasNoChromaAndSamplesStayInRange_range :
    (255 : Half) ≠ 0 ∧ (⟨255, 0, 7⟩ : Pixel).r.toNat ≤ (255 : Half).toNat ∧
      (⟨255, 0, 7⟩ : Pixel).g.toNat ≤ (255 : Half).toNat ∧
      (⟨255, 0, 7⟩ : Pixel).b.toNat ≤ (255 : Half).toNat := by decide

theorem witness_ReconstructedChannelsAreAtMost200_ccInv :
    exec (.ccInv 2) (withLuma 0 0 100 0) = .next (afterCommand (.ccInv 2) (withLuma 0 0 100 0)) := rfl

theorem witness_ReconstructedChannelsAreAtMost200_ccInv4 :
    exec .ccInv4 (withLuma 1 2 3 4) = .next (afterCommand .ccInv4 (withLuma 1 2 3 4)) := rfl

theorem witness_ReconstructedChannelsAreAtMost200_decBlock :
    exec .decBlock State.reset = .next (afterCommand .decBlock State.reset) := rfl

theorem witness_ChromaIndexIsTheLeastNearest :
    (0 < 15 ∧ 14 < 15) ∧ (275 / 1000 : Rat) < 2751 / 10000 ∧ (-275 / 1000 : Rat) ≤ -275 / 1000 := by
  decide +kernel

theorem witness_CqInv_range :
    15 < (withCw 0 0 0 0 16 0).cwPb.toNat ∨ 15 < (withCw 0 0 0 0 16 0).cwPr.toNat := by decide

theorem witness_CqInv_in_range :
    (withCw 0 0 0 0 15 0).cwPb.toNat < 16 ∧ (withCw 0 0 0 0 15 0).cwPr.toNat < 16 := by decide

theorem witness_RoundIsToNearestHalvesAway : (0 : Rat) ≤ 0 ∧ (-1 / 2 : Rat) < 0 := by decide +kernel

theorem witness_DctInv :
    ∃ a b c d : Rat, a = ((withCw 63 (-32) 31 0 0 0).cwA.toNat : Rat) / 63 ∧
      b = ((withCw 63 (-32) 31 0 0 0).cwB.toInt : Rat) / 100 ∧
      c = ((withCw 63 (-32) 31 0 0 0).cwC.toInt : Rat) / 100 ∧
      d = ((withCw 63 (-32) 31 0 0 0).cwD.toInt : Rat) / 100 := ⟨_, _, _, _, rfl, rfl, rfl, rfl⟩

theorem witness_LumaRoundTripIsBounded :
    let s := withLuma (1 / 5) (3 / 10) (2 / 5) (1 / 2)
    (∀ m, 0 ≤ s.y.get m ∧ s.y.get m ≤ 1) ∧
      |(s.y.s3 + s.y.s2 - s.y.s1 - s.y.s0) / 4| ≤ 3 / 10 ∧
      |(s.y.s3 - s.y.s2 + s.y.s1 - s.y.s0) / 4| ≤ 3 / 10 ∧
      |(s.y.s3 - s.y.s2 - s.y.s1 + s.y.s0) / 4| ≤ 3 / 10 ∧
      exec .dctFwd s = .next (afterCommand .dctFwd s) ∧
      exec .dctInv (afterCommand .dctFwd s) =
        .next (afterCommand .dctInv (afterCommand .dctFwd s)) :=
  ⟨by decide +kernel, by decide +kernel, by decide +kernel, by decide +kernel, rfl, rfl⟩

theorem witness_Pack_overflow : ¬CodewordInRange (withCw 64 0 0 0 0 0) := by
  unfold CodewordInRange; decide

theorem witness_Pack_in_range : CodewordInRange (withCw 63 (-32) 31 (-1) 15 0) := by
  unfold CodewordInRange; decide

theorem witness_PackAndUnpackAreInverse_pack :
    let s := withCw 63 (-32) 31 (-1) 15 0
    CodewordInRange s ∧ exec .pack s = .next (afterCommand .pack s) ∧
      exec .unpack (afterCommand .pack s) = .next (afterCommand .unpack (afterCommand .pack s)) :=
  ⟨by unfold CodewordInRange; decide, rfl, rfl⟩

theorem witness_PackAndUnpackAreInverse_unpack :
    let s := { State.reset with word := 0xFFFFFFFF }
    exec .unpack s = .next (afterCommand .unpack s) ∧
      exec .pack (afterCommand .unpack s) = .next (afterCommand .pack (afterCommand .unpack s)) :=
  ⟨rfl, rfl⟩

theorem witness_Nop : { State.reset with ieDone := true : State }.ieDone = true := rfl

theorem witness_BlkNext_ended : State.reset.bend = true := rfl

theorem witness_BlkNext_in_row :
    (walkAt 1 1).bend = false ∧ (walkAt 1 1).bposCol.toNat + 1 < (walkAt 1 1).geomTw.toNat / 2 := by
  decide

theorem witness_BlkNext_next_row :
    (walkAt 2 0).bend = false ∧ (walkAt 2 0).geomTw.toNat / 2 ≤ (walkAt 2 0).bposCol.toNat + 1 ∧
      (walkAt 2 0).bposRow.toNat + 1 < (walkAt 2 0).geomTh.toNat / 2 := by decide

theorem witness_BlkNext_last :
    (walkAt 2 1).bend = false ∧ (walkAt 2 1).geomTw.toNat / 2 ≤ (walkAt 2 1).bposCol.toNat + 1 ∧
      (walkAt 2 1).geomTh.toNat / 2 ≤ (walkAt 2 1).bposRow.toNat + 1 := by decide

/-- A frame of 5 by 3: two blocks (spec/95_test_vectors.md 1.2). -/
def smallFrame : State := { State.reset with frameW := 5, frameH := 3 }

theorem witness_BlockWalkVisitsEveryBlockInOrder :
    exec .blkStart smallFrame = .next (afterCommand .blkStart smallFrame) ∧
      1 < (afterCommand .blkStart smallFrame).nblk ∧
      (afterCommand .blkStart smallFrame).nblk ≤ 2 := ⟨rfl, by decide, by decide⟩

theorem witness_CombinationalRegistersReadTheirFormulas : WalkInGrid (walkAt 2 1) where
  tw_even := by decide
  th_even := by decide
  col_lt := fun _ => by decide
  row_lt := fun _ => by decide
  col_fits := by decide
  row_fits := by decide

theorem witness_EncBlock_denom_zero : (withPixels 0 1 1 1).denom = 0 := rfl

theorem witness_EncBlock_encodes : (withPixels 200 100 100 100).denom ≠ 0 := by decide

/-- ENC_BLOCK's completion answers a next state. -/
theorem encBlock_answers (s : State) : exec .encBlock s = .next (afterCommand .encBlock s) := by
  obtain ⟨t, h⟩ := runCommand_next bodyEncBlock s
  have h' : exec .encBlock s = .next t := h
  simp [afterCommand, h']

theorem witness_BlocksAreIndependent_encode :
    let s := withPixels 200 100 100 100
    let s' := { s with word := 7, bposCol := 1 }
    s.chromaTable = s'.chromaTable ∧ s.denom ≠ 0 ∧ s.denom = s'.denom ∧ s.pix = s'.pix ∧
      exec .encBlock s = .next (afterCommand .encBlock s) ∧
      exec .encBlock s' = .next (afterCommand .encBlock s') :=
  ⟨rfl, by decide, rfl, rfl, encBlock_answers _, encBlock_answers _⟩

theorem witness_BlocksAreIndependent_decode :
    let s := { State.reset with word := 0x80000077 }
    let s' := { s with denom := 7 }
    s.chromaTable = s'.chromaTable ∧ s.word = s'.word ∧
      exec .decBlock s = .next (afterCommand .decBlock s) ∧
      exec .decBlock s' = .next (afterCommand .decBlock s') := ⟨rfl, rfl, rfl, rfl⟩

theorem witness_CompressedFrameIsItsBlocksWords :
    (200 : Half) ≠ 0 ∧ State.reset.chromaTable = (withPixels 1 2 3 4).chromaTable ∧ 1 < 5 / 2 ∧
      0 < 3 / 2 := ⟨by decide, rfl, by decide, by decide⟩

theorem witness_EveryOutputPixelHasOneBlock : 4 % 2 = 0 ∧ 2 % 2 = 0 ∧ 3 < 4 ∧ 1 < 2 := by decide

theorem witness_StreamIsMostSignificantByteFirst : 0 < 4 ∧ 3 < 4 := by decide

end Sys2Proof.Tests
end

section
/-! Rounding (00_scope.md R9): `roundHalfAway` is the one integer that `IsRounded` accepts, so a value
of `round` can be checked against the two half-open intervals instead of by evaluating floors. -/

namespace Sys2Proof.Machine

theorem roundHalfAway_of_nonneg {x : Rat} (hx : 0 ≤ x) : roundHalfAway x = ⌊x + 1 / 2⌋ :=
  if_pos hx

theorem roundHalfAway_of_neg {x : Rat} (hx : x < 0) : roundHalfAway x = -⌊-x + 1 / 2⌋ :=
  if_neg hx.not_ge

theorem isRounded_iff_of_nonneg {x : Rat} (hx : 0 ≤ x) (k : Int) :
    IsRounded x k ↔ (k : Rat) - 1 / 2 ≤ x ∧ x < (k : Rat) + 1 / 2 := by
  simp [IsRounded, hx, hx.not_gt]

theorem isRounded_iff_of_neg {x : Rat} (hx : x < 0) (k : Int) :
    IsRounded x k ↔ (k : Rat) - 1 / 2 < x ∧ x ≤ (k : Rat) + 1 / 2 := by
  simp [IsRounded, hx, hx.not_ge]

/-- `round` is characterised by R9's meaning: each of its two formulas is the floor condition of the
interval that `IsRounded` names for that sign. -/
theorem roundHalfAway_eq_iff {x : Rat} {k : Int} : roundHalfAway x = k ↔ IsRounded x k := by
  rcases le_or_gt 0 x with hx | hx
  · rw [roundHalfAway_of_nonneg hx, isRounded_iff_of_nonneg hx, Int.floor_eq_iff]
    constructor <;> rintro ⟨hlo, hhi⟩ <;> constructor <;> linarith
  · rw [roundHalfAway_of_neg hx, isRounded_iff_of_neg hx, neg_eq_iff_eq_neg, Int.floor_eq_iff,
      Int.cast_neg]
    constructor <;> rintro ⟨hlo, hhi⟩ <;> constructor <;> linarith

theorem isRounded_roundHalfAway (x : Rat) : IsRounded x (roundHalfAway x) :=
  roundHalfAway_eq_iff.mp rfl

/-- Settles O43: the meaning and the examples by `roundHalfAway_eq_iff`, the formulas by sign. -/
theorem roundIsToNearestHalvesAway : Obligations.RoundIsToNearestHalvesAway := by
  refine ⟨isRounded_roundHalfAway, fun _ => roundHalfAway_of_nonneg,
    fun _ => roundHalfAway_of_neg, ?_, ?_, ?_, ?_⟩ <;>
  · rw [roundHalfAway_eq_iff]
    norm_num [IsRounded]

end Sys2Proof.Machine
end

section
/-! Reserved bits (10_state.md R42): the word that a read returns is cut at its fields, and a mask that
selects reserved fields only is cut at the same places. -/

namespace Sys2Proof.Machine

/-- A 16-bit field leaves bits 31:16 of its register 0. -/
theorem setWidth_half_and_high (h : Half) : h.setWidth 32 &&& (0xFFFF0000 : Word32) = 0 := by
  have hword : h.setWidth 32 = (0#16 ++ h : BitVec (16 + 16)) :=
    BitVec.setWidth_eq_append (by decide)
  have hmask : (0xFFFF0000 : Word32) = (0xFFFF#16 ++ 0#16 : BitVec (16 + 16)) := by decide
  rw [hword, hmask, and_of_append]
  simp

theorem ctrlWord_and_reserved (s : State) : s.ctrlWord &&& 0xFFFFFFFC = 0 := by
  have hmask : (0xFFFFFFFC : Word32) = (0x3FFFFFFF#30 ++ 0#1 ++ 0#1 : BitVec (30 + 1 + 1)) := by
    decide
  rw [hmask, State.ctrlWord, and_of_append, and_of_append]
  simp

theorem statusWord_and_reserved (s : State) : s.statusWord &&& 0xFFFFFE0C = 0 := by
  have hmask : (0xFFFFFE0C : Word32) =
      (0x7FFFFF#23 ++ 0#1 ++ 0#4 ++ 3#2 ++ 0#1 ++ 0#1 : BitVec (23 + 1 + 4 + 2 + 1 + 1)) := by decide
  rw [hmask, State.statusWord]
  iterate 5 rw [and_of_append]
  simp

theorem bstatWord_and_reserved (s : State) : s.bstatWord &&& 0xFFFFFFFE = 0 := by
  have hmask : (0xFFFFFFFE : Word32) = (0x7FFFFFFF#31 ++ 0#1 : BitVec (31 + 1)) := by decide
  rw [hmask, State.bstatWord, and_of_append]
  simp

theorem readReg_and_zeroBits (s : State) (r : Reg) : readReg s r &&& zeroBits r = 0 := by
  cases r with
  | ctrl => exact ctrlWord_and_reserved s
  | status => exact statusWord_and_reserved s
  | bstat => exact bstatWord_and_reserved s
  | denom | pix | frameW | frameH => exact setWidth_half_and_high _
  | _ => exact BitVec.and_zero

end Sys2Proof.Machine
end

section
/-! A write on the bus, in a step in which no command completes: the step is `writeReg` at the register
of the offset, and each of CTRL, STATUS and the RO registers has one equation for it. -/

namespace Sys2Proof.Machine

theorem completing_none_of_busCycleNext {s : State} (h : BusCycleNext s) : s.completing = none :=
  h.elim completing_none_of_pending completing_none_of_wait

/-- In a step in which no command completes the next event of the bus takes place. -/
theorem step_busEvent {s : State} {e : BusEvent} {rest : List BusEvent} (hc : BusCycleNext s)
    (hb : s.bus = e :: rest) :
    step s = .next (busEvent e { s with wait := s.wait - 1, bus := rest }) := by
  rw [step_busCycle (completing_none_of_busCycleNext hc), busCycle_cons hb]

theorem offset_of_regAt {off : Byte} {r : Reg} (h : regAt off = some r) : r.offset = off.toNat := by
  unfold regAt at h
  split at h <;> cases h <;> exact Eq.symm ‹off.toNat = _›

theorem Reg.offset_mod_four (r : Reg) : r.offset % 4 = 0 := by
  cases r with
  | pix | pxy => simp only [Reg.offset]; omega
  | _ => rfl

theorem definedAccess_of_regAt {off : Byte} {r : Reg} (h : regAt off = some r) :
    definedAccess off 4 = true := by
  simp [definedAccess, ← offset_of_regAt h, r.offset_mod_four]

theorem busWrite_of_regAt {off : Byte} {r : Reg} (h : regAt off = some r) (v : Word32)
    (s : State) : busWrite off 4 v s = { writeReg r v s with resp := .writeDone } := by
  simp [busWrite, definedAccess_of_regAt h, h]

theorem step_writeReg {s : State} {off : Byte} {r : Reg} {v : Word32} {rest : List BusEvent}
    (hc : BusCycleNext s) (hr : regAt off = some r) (hb : s.bus = .write off 4 v :: rest) :
    step s = .next
      { writeReg r v { s with wait := s.wait - 1, bus := rest } with resp := .writeDone } := by
  rw [step_busEvent hc hb, busEvent, busWrite_of_regAt hr]

theorem storeReg_of_isReadOnly {r : Reg} (h : isReadOnly r = true) (v : Word32) (s : State) :
    storeReg r v s = s := by
  cases r with
  | id | bfResultLo | bfResultHi | geom | bpos | bstat | nblk | cwidx | pxy => rfl
  | _ => cases h

/-- A write to an RO register is dropped while BUSY = 1 and stores nothing while BUSY = 0. -/
theorem writeReg_of_isReadOnly {r : Reg} (h : isReadOnly r = true) (v : Word32) (s : State) :
    writeReg r v s = s := by
  rcases writeReg_cases r v s with ⟨rfl, -⟩ | ⟨rfl, -⟩ | ⟨rfl, -⟩ | ⟨-, -, -, -, hdrop⟩ |
    ⟨-, -, -, -, hstore⟩
  · cases h
  · cases h
  · cases h
  · exact hdrop
  · exact hstore.trans (storeReg_of_isReadOnly h v s)

theorem writeCtrl_of_no_reset {v : Word32} (h : v.getLsbD 31 = false) (s : State) :
    writeCtrl v s = { s with ieDone := v.getLsbD 0, ieErr := v.getLsbD 1 } :=
  if_neg (Bool.not_eq_true _ ▸ h)

theorem writeStatus_eq (v : Word32) (s : State) :
    writeStatus v s = { s with done := s.done && !v.getLsbD 1 } := by
  unfold writeStatus
  cases v.getLsbD 1 with
  | false => rw [Bool.not_false, Bool.and_true]; rfl
  | true => rw [Bool.not_true, Bool.and_false]; rfl

/-- Settles O8: reserved bits by `readReg_and_zeroBits`; a write is `writeReg`, which has one equation
for each kind of register the statement names. -/
theorem onlyWritableFieldsAreWritten : Obligations.OnlyWritableFieldsAreWritten := by
  intro s off r v rest
  refine ⟨readReg_and_zeroBits s r, fun hc hr hb => ?_⟩
  rw [step_writeReg hc hr hb]
  refine ⟨fun hro => ?_, ?_, ?_⟩
  · rw [writeReg_of_isReadOnly hro]
  · rintro rfl hv
    rw [writeReg, writeCtrl_of_no_reset hv]
  · rintro rfl
    rw [writeReg, writeStatus_eq]

end Sys2Proof.Machine
end

section
/-! The interrupt line (10_state.md R47). -/

namespace Sys2Proof.Machine

theorem CoreError.code_ne_zero (c : CoreError) : c.code ≠ 0 := by cases c <;> decide

theorem errCode_eq_zero_iff {e : Option CoreError} : errCode e = 0 ↔ e = none := by
  cases e with
  | none => simp [errCode]
  | some c => simpa [errCode] using c.code_ne_zero

theorem irq_eq_true_iff (s : State) :
    s.irq = true ↔ (s.done = true ∧ s.ieDone = true) ∨ (s.err ≠ none ∧ s.ieErr = true) := by
  simp only [State.irq, Bool.or_eq_true, Bool.and_eq_true, bne_iff_ne, ne_eq, errCode_eq_zero_iff]

/-- STATUS.IRQ is bit 8. -/
theorem statusWord_getLsbD_irq (s : State) : s.statusWord.getLsbD 8 = s.irq := by
  rw [State.statusWord]
  iterate 5 rw [BitVec.getLsbD_append]
  simp

/-- Settles O13: the formula by `irq_eq_true_iff`, the STATUS bit by `statusWord_getLsbD_irq`. -/
theorem interruptLineFollowsDoneAndError : Obligations.InterruptLineFollowsDoneAndError :=
  ⟨fun s => ⟨irq_eq_true_iff s, statusWord_getLsbD_irq s⟩, rfl⟩

end Sys2Proof.Machine
end

section
/-! The values after reset (10_state.md R48). -/

namespace Sys2Proof.Machine

theorem reset_pix_get (n : Slot) (c : Channel) : (State.reset.pix.get n).get c = 0 := by
  rw [show State.reset.pix = .all ⟨0, 0, 0⟩ from rfl, Quad.get_all]
  cases c <;> rfl

theorem readReg_reset (r : Reg) : readReg State.reset r = resetRead r := by
  cases r with
  | pix n c => simp [readReg, resetRead, reset_pix_get]
  | pxy n => rcases Slot.cases n with rfl | rfl | rfl | rfl <;> decide
  | _ => decide

/-- Settles O15: the registers by `readReg_reset`. -/
theorem resetStateHoldsResetValues : Obligations.ResetStateHoldsResetValues where
  reads := readReg_reset
  y := rfl
  pb := rfl
  pr := rfl
  pending := rfl
  irq := rfl

end Sys2Proof.Machine
end

section
/-! The combinational registers (10_state.md R39 to R41): each formula stays below the width of its
register, so the read, which is modulo that width, returns the formula's value. -/

namespace Sys2Proof.Machine

theorem Half.toNat_half_le (x : Half) : x.toNat / 2 ≤ 32767 := by
  have := x.isLt
  omega

theorem nblk_le (s : State) : s.nblk ≤ 32767 * 32767 :=
  Nat.mul_le_mul (Half.toNat_half_le _) (Half.toNat_half_le _)

theorem readReg_nblk_toNat (s : State) : (readReg s .nblk).toNat = s.nblk :=
  Nat.mod_eq_of_lt ((nblk_le s).trans_lt (by decide))

theorem WalkInGrid.cwidx_lt {s : State} (h : WalkInGrid s) : s.cwidx < 32767 * 32767 := by
  have hcol := h.col_fits
  have hrow : s.bposRow.toNat * (s.geomTw.toNat / 2) ≤ 32766 * 32767 :=
    Nat.mul_le_mul (Nat.le_of_lt_succ h.row_fits) (Half.toNat_half_le _)
  unfold State.cwidx
  omega

theorem WalkInGrid.readReg_cwidx_toNat {s : State} (h : WalkInGrid s) :
    (readReg s .cwidx).toNat = s.cwidx :=
  Nat.mod_eq_of_lt (h.cwidx_lt.trans (by decide))

theorem slotColumn_le {i : Nat} (h : i < 32767) (n : Slot) : slotColumn i n ≤ 65533 := by
  unfold slotColumn
  omega

theorem slotRow_le {j : Nat} (h : j < 32767) (n : Slot) : slotRow j n ≤ 65533 := by
  have := n.isLt
  unfold slotRow
  omega

/-- Bits 15:0 of PXYn are the column of slot n. -/
theorem WalkInGrid.pxy_column {s : State} (h : WalkInGrid s) (n : Slot) :
    ((readReg s (.pxy n)).extractLsb' 0 16).toNat = slotColumn s.bposCol.toNat n := by
  rw [readReg, State.pxy, BitVec.extractLsb'_append_eq_right, BitVec.toNat_ofNat]
  exact Nat.mod_eq_of_lt ((slotColumn_le h.col_fits n).trans_lt (by decide))

/-- Bits 31:16 of PXYn are the row of slot n. -/
theorem WalkInGrid.pxy_row {s : State} (h : WalkInGrid s) (n : Slot) :
    ((readReg s (.pxy n)).extractLsb' 16 16).toNat = slotRow s.bposRow.toNat n := by
  rw [readReg, State.pxy, BitVec.extractLsb'_append_eq_left, BitVec.toNat_ofNat]
  exact Nat.mod_eq_of_lt ((slotRow_le h.row_fits n).trans_lt (by decide))

/-- Settles O54: each read is its formula because the formula's bound fits the register; the reset
values are `readReg_reset`. -/
theorem combinationalRegistersReadTheirFormulas :
    Obligations.CombinationalRegistersReadTheirFormulas := fun s n h =>
  ⟨readReg_nblk_toNat s,
   (readReg_nblk_toNat s).trans_le (nblk_le s),
   h.readReg_cwidx_toNat,
   h.pxy_column n,
   h.pxy_row n,
   (h.pxy_column n).trans_le (slotColumn_le h.col_fits n),
   (h.pxy_row n).trans_le (slotRow_le h.row_fits n),
   readReg_reset .nblk, readReg_reset .cwidx, readReg_reset (.pxy n)⟩

end Sys2Proof.Machine
end

section
/-! A reserved offset of the window (20_memory.md R61, R63): no register lies there, so an aligned
access answers without reaching one. -/

namespace Sys2Proof.Machine

/-- The reserved rows of the register map of 20_memory.md R61. -/
def IsReservedOffset (n : Nat) : Prop :=
  0x14 ≤ n ∧ n ≤ 0x1C ∨ n = 0x6C ∨ 0x88 ≤ n ∧ n ≤ 0x8C ∨ n = 0xAC ∨ 0xC0 ≤ n

theorem Reg.not_isReservedOffset (r : Reg) : ¬IsReservedOffset r.offset := by
  unfold IsReservedOffset
  cases r with
  | pix n c =>
    have hn := n.isLt
    cases c <;> simp only [Reg.offset, Channel.index] <;> omega
  | pxy n =>
    have hn := n.isLt
    simp only [Reg.offset]
    omega
  | _ => decide

theorem regAt_eq_none_of_isReservedOffset {off : Byte} (h : IsReservedOffset off.toNat) :
    regAt off = none := by
  cases hr : regAt off with
  | none => rfl
  | some r => exact absurd (offset_of_regAt hr ▸ h) r.not_isReservedOffset

theorem definedAccess_of_aligned {off : Byte} (h : off.toNat % 4 = 0) :
    definedAccess off 4 = true := by
  simp [definedAccess, h]

theorem busRead_of_regAt_none {off : Byte} (ha : off.toNat % 4 = 0) (hr : regAt off = none)
    (s : State) : busRead off 4 s = { s with resp := .readData 0 } := by
  simp [busRead, definedAccess_of_aligned ha, hr]

theorem busWrite_of_regAt_none {off : Byte} (ha : off.toNat % 4 = 0) (hr : regAt off = none)
    (v : Word32) (s : State) : busWrite off 4 v s = { s with resp := .writeDone } := by
  simp [busWrite, definedAccess_of_aligned ha, hr]

/-- Settles O7: no register's offset is reserved, so `regAt` finds none and the access leaves its
response only. -/
theorem reservedOffsetReadsZeroIgnoresWrites :
    Obligations.ReservedOffsetReadsZeroIgnoresWrites := by
  intro s off v rest hc ha hoff
  have hr : regAt off = none := regAt_eq_none_of_isReservedOffset hoff
  constructor
  · intro hb
    rw [step_busEvent hc hb, busEvent, busRead_of_regAt_none ha hr]
  · intro hb
    rw [step_busEvent hc hb, busEvent, busWrite_of_regAt_none ha hr]

end Sys2Proof.Machine
end

section
/-! The byte order of the stream (20_memory.md R70): the word a host forms of four bytes is their
concatenation, first byte at the top, so it takes a word's own bytes back to the word. -/

namespace Sys2Proof.Machine

theorem wordOfBytes_eq_append (b0 b1 b2 b3 : Byte) :
    wordOfBytes b0 b1 b2 b3 = (b0 ++ b1 ++ b2 ++ b3 : BitVec (8 + 8 + 8 + 8)) := by
  rw [← BitVec.setWidth_eq (b0 ++ b1 ++ b2 ++ b3),
    BitVec.setWidth_append_append_append_eq_shiftLeft_setWidth_or]
  rfl

/-- The number a concatenation stands for. -/
theorem toNat_append_eq_add {m n : Nat} (x : BitVec m) (y : BitVec n) :
    (x ++ y).toNat = x.toNat * 2 ^ n + y.toNat := by
  rw [BitVec.toNat_append, ← Nat.shiftLeft_add_eq_or_of_lt y.isLt, Nat.shiftLeft_eq]

theorem wordOfBytes_toNat (b0 b1 b2 b3 : Byte) : (wordOfBytes b0 b1 b2 b3).toNat =
    b0.toNat * 2 ^ 24 + b1.toNat * 2 ^ 16 + b2.toNat * 2 ^ 8 + b3.toNat := by
  rw [wordOfBytes_eq_append]
  simp only [toNat_append_eq_add]
  ring

theorem wordBytes_getElem? (w : Word32) {k : Nat} (hk : k < 4) :
    (wordBytes w)[k]? = some (w.extractLsb' (24 - 8 * k) 8) := by
  interval_cases k <;> rfl

theorem wordOfBytes_extract (w : Word32) :
    wordOfBytes (w.extractLsb' 24 8) (w.extractLsb' 16 8) (w.extractLsb' 8 8)
      (w.extractLsb' 0 8) = w := by
  rw [wordOfBytes_eq_append,
    BitVec.extractLsb'_append_extractLsb'_eq_extractLsb' (show 24 = 16 + 8 from rfl),
    BitVec.extractLsb'_append_extractLsb'_eq_extractLsb' (show 16 = 8 + 8 from rfl),
    BitVec.extractLsb'_append_extractLsb'_eq_extractLsb' (show 8 = 0 + 8 from rfl)]
  exact BitVec.extractLsb'_eq_self

theorem streamBytes_cons (w : Word32) (ws : List Word32) :
    streamBytes (w :: ws) = wordBytes w ++ streamBytes ws :=
  List.flatMap_cons

/-- The host reads a word's four bytes as that word and goes on with the rest. -/
theorem streamWords_wordBytes_append (w : Word32) (bs : List Byte) :
    streamWords (wordBytes w ++ bs) = w :: streamWords bs :=
  congrArg (· :: streamWords bs) (wordOfBytes_extract w)

theorem streamWords_streamBytes (ws : List Word32) : streamWords (streamBytes ws) = ws := by
  induction ws with
  | nil => rfl
  | cons w ws ih => rw [streamBytes_cons, streamWords_wordBytes_append, ih]

theorem streamBytes_length (ws : List Word32) : (streamBytes ws).length = 4 * ws.length := by
  induction ws with
  | nil => rfl
  | cons w ws ih =>
    have hw : (wordBytes w).length = 4 := rfl
    rw [streamBytes_cons, List.length_append, hw, ih, List.length_cons]
    omega

/-- Settles O60: a word is the concatenation of its four bytes (`wordOfBytes_eq_append`), and a stream
is read back word by word. -/
theorem streamIsMostSignificantByteFirst : Obligations.StreamIsMostSignificantByteFirst :=
  ⟨fun w _ hk => wordBytes_getElem? w hk, by decide, wordOfBytes_toNat,
   fun ws => ⟨streamWords_streamBytes ws, streamBytes_length ws⟩⟩

end Sys2Proof.Machine
end

section
/-! A write to CMD (30_encoding.md R87): the offset is CMD's, and `issue` has one equation for each of
its four cases. -/

namespace Sys2Proof.Machine

theorem issue_of_error {s : State} (he : s.err ≠ none) (v : Word32) : issue v s = s :=
  if_pos he

theorem issue_of_busy {s : State} (he : s.err = none) (hb : s.busy = true) (v : Word32) :
    issue v s = { s with err := some .cmdWhileBusy } := by
  simp [issue, he, hb]

theorem issue_of_decode_error {s : State} {v : Word32} {e : DecodeError} (he : s.err = none)
    (hb : s.busy = false) (hd : decode v = .error e) :
    issue v s = { s with cmd := v, done := true, err := some .illegalCmd } := by
  simp [issue, he, hb, hd]

theorem issue_of_decode_ok {s : State} {v : Word32} {i : Instr} (he : s.err = none)
    (hb : s.busy = false) (hd : decode v = .ok i) :
    issue v s = { s with
      cmd := v, done := false, busy := true, pending := some v
      wait := Config.lat v s.issues, issues := s.issues + 1 } := by
  simp [issue, he, hb, hd]

theorem regAt_cmd : regAt 0x0C = some .cmd := rfl

/-- Settles O10: the step is `issue` at the cycle's state, whose ERR and BUSY are those of `s`. -/
theorem issueFollowsItsFourCases : Obligations.IssueFollowsItsFourCases := by
  intro s v rest hc hbus
  rw [step_writeReg hc regAt_cmd hbus, writeReg]
  refine ⟨fun he => ?_, fun he hb => ?_, fun he hb hd => ?_, fun i he hb hd => ?_⟩
  · rw [issue_of_error (by exact he)]
  · rw [issue_of_busy (by exact he) (by exact hb)]
  · cases hv : decode v with
    | ok i => exact absurd hv (hd i)
    | error e => rw [issue_of_decode_error (by exact he) (by exact hb) hv]
  · rw [issue_of_decode_ok (by exact he) (by exact hb) hd]
    exact ⟨_, _, rfl⟩

end Sys2Proof.Machine
end

section
/-! Legal command words (30_encoding.md R82, R83): a row of the match/mask list is an opcode with the
fields it leaves free, so a word hits it exactly when the word has that opcode and legal fields; and no
two rows have the same opcode. -/

namespace Sys2Proof

/-- The opcode of a row: bits 7:0 of its match. -/
def OpRow.opc (r : OpRow) : Byte := r.matchBits.extractLsb' 0 8

/-- A field's part of a row's mask: nothing of a field that the opcode uses, else every bit. -/
def fieldMask (n : Nat) (used : Bool) : BitVec n := if used then 0 else BitVec.allOnes n

/-- The mask of an opcode that uses the fields `u`: OPC, RSV and the fields it does not use. -/
def FieldsUsed.mask (u : FieldsUsed) : CmdFields :=
  ⟨BitVec.allOnes 8, fieldMask 2 u.s, BitVec.allOnes 6, fieldMask 8 u.w, fieldMask 8 u.l⟩

theorem and_fieldMask_eq_zero_iff {n : Nat} (x : BitVec n) (used : Bool) :
    x &&& fieldMask n used = 0 ↔ (used || x == 0) = true := by
  cases used <;> simp [fieldMask]

/-- The match/mask list says the same as the column "fields used" of R82. -/
theorem opRows_format : ∀ r ∈ opRows, r.matchBits = assemble ⟨r.opc, 0, 0, 0, 0⟩ ∧
    (fieldsUsed r.opc).map (fun u => assemble u.mask) = some r.mask := by
  decide

theorem opRows_opc_nodup : (opRows.map OpRow.opc).Nodup := by decide

/-- Every opcode that R82 assigns has a row. -/
theorem exists_row_of_fieldsUsed {opc : Byte} {u : FieldsUsed} (h : fieldsUsed opc = some u) :
    ∃ r ∈ opRows, r.opc = opc := by
  have hopc : opRows.map OpRow.opc = [0x00, 0x01, 0x02, 0x03, 0x04, 0x10, 0x11, 0x20, 0x21, 0x30,
    0x31, 0x40, 0x41, 0x50, 0x51, 0x52, 0x53, 0x54, 0x55, 0x60, 0x61] := by decide
  rw [← List.mem_map, hopc]
  unfold fieldsUsed at h
  simp only [List.mem_cons, List.not_mem_nil, or_false]
  split_ifs at h <;> tauto

theorem CmdFields.legal_iff {f : CmdFields} {u : FieldsUsed} (h : fieldsUsed f.opc = some u) :
    f.legal = true ↔ f.rsv = 0 ∧ (u.s || f.s == 0) = true ∧ (u.w || f.w == 0) = true ∧
      (u.l || f.l == 0) = true := by
  simp only [CmdFields.legal, h, Bool.and_eq_true, beq_iff_eq, and_assoc]

/-- A row hits exactly the words of its opcode whose fields are legal. -/
theorem hits_iff_legal {r : OpRow} (hr : r ∈ opRows) (v : Word32) :
    r.hits v = true ↔ r.opc = (CmdFields.ofWord v).opc ∧ (CmdFields.ofWord v).legal = true := by
  obtain ⟨hmatch, hmask⟩ := opRows_format r hr
  obtain ⟨u, hu, hmask⟩ := Option.map_eq_some_iff.mp hmask
  have hhits := hits_assemble r _ u.mask (CmdFields.ofWord v) hmatch hmask.symm
  simp only [assemble_ofWord, FieldsUsed.mask, BitVec.and_allOnes,
    and_fieldMask_eq_zero_iff] at hhits
  rw [hhits, eq_comm (a := r.opc)]
  refine and_congr_right fun hopc => ?_
  rw [CmdFields.legal_iff (hopc ▸ hu)]
  exact and_left_comm

theorem exists_hits_iff_legal (v : Word32) :
    (∃ r ∈ opRows, r.hits v = true) ↔ (CmdFields.ofWord v).legal = true := by
  constructor
  · rintro ⟨r, hr, hhits⟩
    exact ((hits_iff_legal hr v).mp hhits).2
  · intro hlegal
    cases hu : fieldsUsed (CmdFields.ofWord v).opc with
    | none => simp [CmdFields.legal, hu] at hlegal
    | some u =>
      obtain ⟨r, hr, hopc⟩ := exists_row_of_fieldsUsed hu
      exact ⟨r, hr, (hits_iff_legal hr v).mpr ⟨hopc, hlegal⟩⟩

theorem decode_ok_iff_exists_hits (v : Word32) :
    (∃ i, decode v = .ok i) ↔ ∃ r ∈ opRows, r.hits v = true := by
  rw [← List.find?_isSome, decode]
  cases opRows.find? fun r => r.hits v <;> simp

/-- A word's rows all have its opcode, and no opcode has two rows. -/
theorem length_filter_hits_le_one (v : Word32) :
    (opRows.filter fun r => r.hits v).length ≤ 1 := by
  calc (opRows.filter fun r => r.hits v).length
      = opRows.countP fun r => r.hits v := List.countP_eq_length_filter.symm
    _ ≤ opRows.countP ((· == (CmdFields.ofWord v).opc) ∘ OpRow.opc) :=
        List.countP_mono_left fun r hr hhits => beq_iff_eq.mpr ((hits_iff_legal hr v).mp hhits).1
    _ = (opRows.map OpRow.opc).count (CmdFields.ofWord v).opc := List.countP_map.symm
    _ ≤ 1 := List.nodup_iff_count_le_one.mp opRows_opc_nodup _

/-- Settles O3: a match is a hit, and a hit is the row's opcode and legal fields (`hits_iff_legal`). -/
theorem legalExactlyWhenFieldsAreLegal : Obligations.LegalExactlyWhenFieldsAreLegal := by
  intro v
  have hmatch (r : OpRow) : v &&& r.mask = r.matchBits ↔ r.hits v = true := beq_iff_eq.symm
  simp only [hmatch]
  exact ⟨decode_ok_iff_exists_hits v, exists_hits_iff_legal v, length_filter_hits_le_one v⟩

end Sys2Proof
end

section
/-! The bit-field commands (40_bitfield.md R100 to R109): the two ways one of them can end, the
numbers that its operands stand for, and what each of the unit's functions computes on those numbers. -/

namespace Sys2Proof.Machine

/-! ### The command words -/

/-- A command word without an S field: its operand bytes above a half word of RSV, S and OPC. -/
theorem assemble_operand_bytes (opc w l : Byte) :
    assemble ⟨opc, 0, 0, w, l⟩ = (l ++ w ++ (0#8 ++ opc : BitVec 16) : BitVec 32) := by
  apply BitVec.eq_of_toNat_eq
  change (l ++ w ++ 0#6 ++ 0#2 ++ opc : BitVec (8 + 8 + 6 + 2 + 8)).toNat =
    (l ++ w ++ (0#8 ++ opc) : BitVec (8 + 8 + (8 + 8))).toNat
  simp only [toNat_append_eq_add, BitVec.toNat_zero]
  omega

/-! ### How a bit-field command ends -/

theorem raiseError_eq_erred (s : State) (c : CoreError) : s.raiseError c = erred s c := by
  cases h : s.err <;> simp [State.raiseError, erred, recordError, h]

theorem runCommand_eq_erred {body : State → Except CoreError State} {s : State} {c : CoreError}
    (h : body s = .error c) : runCommand body s = .next (erred s c) := by
  rw [runCommand_error h, raiseError_eq_erred]

/-- A command that does not raise writes BF_RESULT, and otherwise only completes. -/
theorem runCommand_setBfResult {body : State → Except CoreError State} {s : State} {r : Word64}
    (h : body s = .ok (s.setBfResult r)) :
    runCommand body s = .next { s with
      bfResultLo := low32 r, bfResultHi := high32 r
      busy := false, done := true, pending := none } :=
  runCommand_ok h

theorem exec_bfFitsU (w : Byte) (s : State) :
    exec (.bfFitsU w) s = runCommand (bodyBfFitsU w) s := rfl

theorem exec_bfFitsS (w : Byte) (s : State) :
    exec (.bfFitsS w) s = runCommand (bodyBfFitsS w) s := rfl

theorem exec_bfGetU (w l : Byte) (s : State) :
    exec (.bfGetU w l) s = runCommand (bodyBfGetU w l) s := rfl

theorem exec_bfGetS (w l : Byte) (s : State) :
    exec (.bfGetS w l) s = runCommand (bodyBfGetS w l) s := rfl

theorem exec_bfSetU (w l : Byte) (s : State) :
    exec (.bfSetU w l) s = runCommand (bodyBfSetU w l) s := rfl

theorem exec_bfSetS (w l : Byte) (s : State) :
    exec (.bfSetS w l) s = runCommand (bodyBfSetS w l) s := rfl

/-! ### The operands as numbers (10_state.md R32, R33) -/

theorem bfWord_toNat (s : State) : s.bfWord.toNat = wordNat s :=
  toNat_append_eq_add s.bfWordHi s.bfWordLo

theorem bfValue_toNat (s : State) : s.bfValue.toNat = valueNat s :=
  toNat_append_eq_add s.bfValueHi s.bfValueLo

theorem bfValue_toInt (s : State) : s.bfValue.toInt = valueInt s := by
  rw [BitVec.toInt_eq_toNat_cond, bfValue_toNat, valueInt]
  split_ifs <;> omega

theorem high32_low32_toNat (r : Word64) :
    (high32 r).toNat * 2 ^ 32 + (low32 r).toNat = r.toNat := by
  simp only [high32, low32, BitVec.extractLsb'_toNat, Nat.shiftRight_eq_div_pow]
  omega

/-! ### The fit tests (R102 to R105) -/

theorem fitsU_iff (v : Word64) (w : Nat) : fitsU v w = true ↔ FitsUnsigned v.toNat w := by
  unfold fitsU FitsUnsigned
  split_ifs <;> simp [*]

theorem fitsS_iff (v : Word64) (w : Nat) : fitsS v w = true ↔ FitsSigned v.toInt w := by
  unfold fitsS FitsSigned
  split_ifs <;> simp [*]

theorem fitsU_bfValue_iff (s : State) (w : Nat) :
    fitsU s.bfValue w = true ↔ FitsUnsigned (valueNat s) w := by
  rw [fitsU_iff, bfValue_toNat]

theorem fitsS_bfValue_iff (s : State) (w : Nat) :
    fitsS s.bfValue w = true ↔ FitsSigned (valueInt s) w := by
  rw [fitsS_iff, bfValue_toInt]

/-- A fit test that passes its width check leaves the answer to `P` in BF_RESULT. -/
theorem runCommand_fitResult {body : State → Except CoreError State} {s : State} {b : Bool}
    {P : Prop} (h : body s = .ok (s.setBfResult (fitResult b))) (hb : b = true ↔ P) :
    ∃ r : Word32,
      runCommand body s = .next { s with
        bfResultLo := r, bfResultHi := 0, busy := false, done := true, pending := none } ∧
      (P → r = 1) ∧ (¬P → r = 0) := by
  rw [← hb, runCommand_setBfResult h]
  cases b with
  | true => exact ⟨1, rfl, fun _ => rfl, fun hn => absurd rfl hn⟩
  | false => exact ⟨0, rfl, nofun, fun _ => rfl⟩

/-- Settles O27: the width check, and then `fitsU` on BF_VALUE as a number. -/
theorem bfFitsuFollowsItsRule : Obligations.BfFitsuFollowsItsRule := by
  intro w s
  rw [exec_bfFitsU]
  refine ⟨assemble_operand_bytes _ _ _, fun hw => ?_, fun hw => ?_⟩
  · exact runCommand_eq_erred (by simp [bodyBfFitsU, checkWidth_error hw])
  · exact runCommand_fitResult (by simp [bodyBfFitsU, checkWidth_ok_iff.mpr hw])
      (fitsU_bfValue_iff s w.toNat)

/-- Settles O28: the width check, and then `fitsS` on BF_VALUE as a number. -/
theorem bfFitssFollowsItsRule : Obligations.BfFitssFollowsItsRule := by
  intro w s
  rw [exec_bfFitsS]
  refine ⟨assemble_operand_bytes _ _ _, fun hw => ?_, fun hw => ?_⟩
  · exact runCommand_eq_erred (by simp [bodyBfFitsS, checkWidth_error hw])
  · exact runCommand_fitResult (by simp [bodyBfFitsS, checkWidth_ok_iff.mpr hw])
      (fitsS_bfValue_iff s w.toNat)

/-! ### Extraction (R106, R107) -/

theorem extractLsb'_toNat_eq_div_mod (word : Word64) (w l : Nat) :
    (word.extractLsb' l w).toNat = word.toNat / 2 ^ l % 2 ^ w := by
  rw [BitVec.extractLsb'_toNat, Nat.shiftRight_eq_div_pow]

theorem getU_toNat (word : Word64) {w : Nat} (hw : w ≤ 64) (l : Nat) :
    (getU word w l).toNat = word.toNat / 2 ^ l % 2 ^ w := by
  unfold getU
  split_ifs with h0
  · simp [h0, Nat.mod_one]
  · rw [BitVec.toNat_setWidth_of_le hw, extractLsb'_toNat_eq_div_mod]

/-- The field as a number of `w` bits in two's complement: its top bit weighs `-2^(w-1)`. -/
theorem getS_toInt (word : Word64) {w : Nat} (hw : w ≤ 64) (h0 : w ≠ 0) (l : Nat) :
    (getS word w l).toInt =
      if word.toNat / 2 ^ l % 2 ^ w < 2 ^ (w - 1) then ((word.toNat / 2 ^ l % 2 ^ w : Nat) : Int)
      else ((word.toNat / 2 ^ l % 2 ^ w : Nat) : Int) - 2 ^ w := by
  have hsign : 2 * (word.toNat / 2 ^ l % 2 ^ w) < 2 ^ w ↔
      word.toNat / 2 ^ l % 2 ^ w < 2 ^ (w - 1) := by
    rw [← Nat.two_pow_pred_mul_two (Nat.pos_of_ne_zero h0)]
    omega
  rw [getS, if_neg h0, BitVec.toInt_signExtend_of_le hw, BitVec.toInt_eq_toNat_cond,
    extractLsb'_toNat_eq_div_mod]
  simp only [hsign, Nat.cast_pow, Nat.cast_ofNat]

/-- The first half of R101's check is part of the second: a field wider than the word does not lie
in it at any lsb. -/
theorem invalid_field_iff {w l : Nat} : 64 < w ∨ 64 < w + l ↔ 64 < w + l := by omega

/-- Settles O29: the width check, and then `getU_toNat` at BF_WORD. -/
theorem bfGetuFollowsItsRule : Obligations.BfGetuFollowsItsRule := by
  intro w l s
  rw [exec_bfGetU, invalid_field_iff]
  refine ⟨assemble_operand_bytes _ _ _, fun hwl => ?_, fun hwl => ?_⟩
  · exact runCommand_eq_erred (by simp [bodyBfGetU, checkField_error hwl])
  · refine ⟨_, _, runCommand_setBfResult (by rw [bodyBfGetU, checkField_ok_iff.mpr hwl]), ?_⟩
    rw [high32_low32_toNat, getU_toNat _ (by omega), bfWord_toNat]

/-- Settles O30: the width check, and then `getS_toInt` at BF_WORD, by the field's sign. -/
theorem bfGetsFollowsItsRule : Obligations.BfGetsFollowsItsRule := by
  intro w l s
  rw [exec_bfGetS, invalid_field_iff]
  refine ⟨assemble_operand_bytes _ _ _, fun hwl => ?_, fun hwl => ?_⟩
  · exact runCommand_eq_erred (by simp [bodyBfGetS, checkField_error hwl])
  · have hbody : bodyBfGetS w l s = .ok (s.setBfResult (getS s.bfWord w.toNat l.toNat)) := by
      rw [bodyBfGetS, checkField_ok_iff.mpr hwl]
    refine ⟨_, runCommand_setBfResult hbody, fun h0 => if_pos h0, fun h0 hlow => ?_,
      fun h0 hhigh => ?_⟩
    · rw [getS_toInt _ (by omega) h0, bfWord_toNat, if_pos hlow]
    · rw [getS_toInt _ (by omega) h0, bfWord_toNat, if_neg hhigh.not_gt]

/-! ### Insertion (R108, R109) -/

theorem lowOnes_getLsbD (w k : Nat) :
    (lowOnes w).getLsbD k = (decide (k < 64) && decide (k < w)) := by
  rw [lowOnes, BitVec.getLsbD_ofNat, Nat.testBit_two_pow_sub_one]

/-- Inside the field the bits of the value, outside it those of the word. -/
theorem insertField_getLsbD (word value : Word64) (w l : Nat) {k : Nat} (hk : k < 64) :
    (insertField word w l value).getLsbD k =
      if l ≤ k ∧ k < l + w then value.getLsbD (k - l) else word.getLsbD k := by
  simp only [insertField, BitVec.getLsbD_or, BitVec.getLsbD_and, BitVec.getLsbD_not,
    BitVec.getLsbD_shiftLeft, lowOnes_getLsbD]
  have hkl : k - l < 64 := by omega
  by_cases hl : l ≤ k
  · have hin : k - l < w ↔ k < l + w := by omega
    by_cases hw : k < l + w <;> simp [hk, hkl, hl, hl.not_gt, hin, hw]
  · simp [hk, hl, not_le.mp hl]

/-- An insertion that passes its checks leaves in BF_RESULT the word with the value's bits in the
field. -/
theorem runCommand_insertField {body : State → Except CoreError State} {s : State} {w l : Nat}
    (h : body s = .ok (s.setBfResult (insertField s.bfWord w l s.bfValue))) :
    ∃ r : Word64,
      runCommand body s = .next { s with
        bfResultLo := r.extractLsb' 0 32, bfResultHi := r.extractLsb' 32 32
        busy := false, done := true, pending := none } ∧
      ∀ k < 64, r.getLsbD k =
        if l ≤ k ∧ k < l + w then (valueNat s).testBit (k - l) else (wordNat s).testBit k := by
  refine ⟨_, runCommand_setBfResult h, fun k hk => ?_⟩
  rw [insertField_getLsbD _ _ _ _ hk, ← bfValue_toNat, ← bfWord_toNat, BitVec.testBit_toNat,
    BitVec.testBit_toNat]

/-- Settles O31: the answers of `setU`, whose fit test is `fitsU` on BF_VALUE as a number. -/
theorem bfSetuFollowsItsRule : Obligations.BfSetuFollowsItsRule := by
  intro w l s
  rw [exec_bfSetU, invalid_field_iff, ← fitsU_bfValue_iff, Bool.not_eq_true]
  refine ⟨assemble_operand_bytes _ _ _, fun hwl => ?_, fun hwl hfit => ?_, fun hwl hfit => ?_⟩
  · exact runCommand_eq_erred (by rw [bodyBfSetU, setU_invalid hwl]; rfl)
  · exact runCommand_eq_erred (by rw [bodyBfSetU, setU_overflow hwl hfit]; rfl)
  · exact runCommand_insertField (by rw [bodyBfSetU, setU_ok hwl hfit]; rfl)

/-- Settles O32: the answers of `setS`, whose fit test is `fitsS` on BF_VALUE as a number. -/
theorem bfSetsFollowsItsRule : Obligations.BfSetsFollowsItsRule := by
  intro w l s
  rw [exec_bfSetS, invalid_field_iff, ← fitsS_bfValue_iff, Bool.not_eq_true]
  refine ⟨assemble_operand_bytes _ _ _, fun hwl => ?_, fun hwl hfit => ?_, fun hwl hfit => ?_⟩
  · exact runCommand_eq_erred (by rw [bodyBfSetS, setS_invalid hwl]; rfl)
  · exact runCommand_eq_erred (by rw [bodyBfSetS, setS_overflow hwl hfit]; rfl)
  · exact runCommand_insertField (by rw [bodyBfSetS, setS_ok hwl hfit]; rfl)

end Sys2Proof.Machine
end

section
/-! The colour-space commands (41_colorspace.md R120 to R125): a lane is its rule's formula on one slot,
and the four lanes of CC_FWD4 and CC_INV4 reach every slot once, so each slot gets its own lane's value
of the state before the command. -/

namespace Sys2Proof.Machine

/-! ### The command words -/

/-- A command word without W and L fields: its slot above the opcode. -/
theorem assemble_slot (opc : Byte) (n : Slot) :
    assemble ⟨opc, n, 0, 0, 0⟩ = (0#22 ++ n ++ opc : BitVec 32) := by
  apply BitVec.eq_of_toNat_eq
  change (0#8 ++ 0#8 ++ 0#6 ++ n ++ opc : BitVec (8 + 8 + 6 + 2 + 8)).toNat =
    (0#22 ++ n ++ opc : BitVec (22 + 2 + 8)).toNat
  simp only [toNat_append_eq_add, BitVec.toNat_zero, Nat.zero_mul, Nat.zero_add]

theorem exec_ccFwd (n : Slot) (s : State) : exec (.ccFwd n) s = runCommand (bodyCcFwd n) s := rfl

theorem exec_ccInv (n : Slot) (s : State) : exec (.ccInv n) s = runCommand (bodyCcInv n) s := rfl

theorem exec_ccFwd4 (s : State) : exec .ccFwd4 s = runCommand bodyCcFwd4 s := rfl

theorem exec_ccInv4 (s : State) : exec .ccInv4 s = runCommand bodyCcInv4 s := rfl

/-! ### What a conversion writes -/

/-- `t` is `s` with another sample file. -/
def SamplesOnly (s t : State) : Prop := t = { s with y := t.y, pb := t.pb, pr := t.pr }

theorem SamplesOnly.refl (s : State) : SamplesOnly s s := rfl

theorem SamplesOnly.forwardLane {s t : State} (h : SamplesOnly s t) (d : Half) (n : Slot) :
    SamplesOnly s (forwardLane d n t) := by
  rw [h]
  rfl

/-- A command that writes the sample file and nothing else only completes besides. -/
theorem SamplesOnly.runCommand_eq {body : State → Except CoreError State} {s t : State}
    (h : SamplesOnly s t) (hbody : body s = .ok t) :
    runCommand body s = .next { s with
      y := t.y, pb := t.pb, pr := t.pr, busy := false, done := true, pending := none } :=
  runCommand_ok (hbody.trans (congrArg Except.ok h))

/-- `t` is `s` with other pixel registers. -/
def PixelsOnly (s t : State) : Prop := t = { s with pix := t.pix }

theorem PixelsOnly.refl (s : State) : PixelsOnly s s := rfl

theorem PixelsOnly.inverseLane {s t : State} (h : PixelsOnly s t) (n : Slot) :
    PixelsOnly s (inverseLane n t) := by
  rw [h]
  rfl

/-- A command that writes the pixel registers and nothing else only completes besides. -/
theorem PixelsOnly.runCommand_eq {body : State → Except CoreError State} {s t : State}
    (h : PixelsOnly s t) (hbody : body s = .ok t) :
    runCommand body s = .next { s with
      pix := t.pix, busy := false, done := true, pending := none } :=
  runCommand_ok (hbody.trans (congrArg Except.ok h))

/-! ### The forward conversion (R120, R122, R124) -/

/-- The formulas of R120 times their common denominator. -/
theorem isForwardSample_rgbToYpbpr (p : Pixel) {d : Half} (hd : d ≠ 0) :
    IsForwardSample p d (rgbToYpbpr p d).y (rgbToYpbpr p d).pb (rgbToYpbpr p d).pr := by
  have hd' : (d.toNat : Rat) ≠ 0 :=
    Nat.cast_ne_zero.mpr fun h => hd (BitVec.eq_of_toNat_eq h)
  unfold IsForwardSample rgbToYpbpr
  refine ⟨?_, ?_, ?_⟩
  · field_simp
  · field_simp
    ring
  · field_simp
    ring

/-- Reading a slot's sample after writing one. -/
theorem sample_setSample (s : State) (n m : Slot) (v : Sample) :
    (s.setSample n v).sample m = if m = n then v else s.sample m := by
  simp only [State.sample, State.setSample_y, State.setSample_pb, State.setSample_pr, Quad.get_set]
  split_ifs <;> rfl

theorem sample_forwardLane (d : Half) (n m : Slot) (s : State) :
    (forwardLane d n s).sample m = if m = n then rgbToYpbpr (s.pix.get n) d else s.sample m :=
  sample_setSample s n m _

theorem pix_forwardLane (d : Half) (n : Slot) (s : State) : (forwardLane d n s).pix = s.pix := rfl

theorem samplesOnly_four_forwardLanes (d : Half) (s : State) :
    SamplesOnly s (forwardLane d 3 (forwardLane d 2 (forwardLane d 1 (forwardLane d 0 s)))) :=
  ((((SamplesOnly.refl s).forwardLane d 0).forwardLane d 1).forwardLane d 2).forwardLane d 3

theorem sample_four_forwardLanes (d : Half) (m : Slot) (s : State) :
    (forwardLane d 3 (forwardLane d 2 (forwardLane d 1 (forwardLane d 0 s)))).sample m =
      rgbToYpbpr (s.pix.get m) d := by
  simp only [sample_forwardLane, pix_forwardLane]
  rcases Slot.cases m with rfl | rfl | rfl | rfl <;> rfl

/-- A slot that holds its pixel's conversion holds the sample of R120. -/
theorem isForwardSample_of_sample_eq {t : State} {m : Slot} {p : Pixel} {d : Half} (hd : d ≠ 0)
    (h : t.sample m = rgbToYpbpr p d) :
    IsForwardSample p d (t.y.get m) (t.pb.get m) (t.pr.get m) := by
  have hp := isForwardSample_rgbToYpbpr p hd
  rwa [← h] at hp

/-- Settles O34: the check of DENOM, and then one lane, whose slot alone changes its sample. -/
theorem ccFwdFollowsItsRule : Obligations.CcFwdFollowsItsRule := by
  intro n s
  rw [exec_ccFwd]
  refine ⟨assemble_slot _ _, fun hd => ?_, fun hd => ?_⟩
  · exact runCommand_eq_erred (if_pos hd)
  · refine ⟨_, _, _, ((SamplesOnly.refl s).forwardLane _ _).runCommand_eq (if_neg hd), ?_,
      fun m hm => ?_⟩
    · exact isForwardSample_of_sample_eq hd ((sample_forwardLane s.denom n n s).trans (if_pos rfl))
    · have hsame : (forwardLane s.denom n s).sample m = s.sample m :=
        (sample_forwardLane s.denom n m s).trans (if_neg hm)
      exact ⟨congrArg Sample.y hsame, congrArg Sample.pb hsame, congrArg Sample.pr hsame⟩

/-- Settles O35: the check of DENOM, and then the four lanes by `sample_four_forwardLanes`. -/
theorem ccFwd4FollowsItsRule : Obligations.CcFwd4FollowsItsRule := by
  intro s
  rw [exec_ccFwd4]
  refine ⟨rfl, fun hd => ?_, fun hd => ?_⟩
  · exact runCommand_eq_erred (if_pos hd)
  · exact ⟨_, _, _, (samplesOnly_four_forwardLanes s.denom s).runCommand_eq (if_neg hd), fun m =>
      isForwardSample_of_sample_eq hd (sample_four_forwardLanes s.denom m s)⟩

/-! ### The inverse conversion (R121, R123, R125) -/

/-- A clamped channel is at most 200, so its register holds it as it is. -/
theorem outChannel_toNat (x : Rat) :
    ((outChannel x).toNat : Int) = max 0 (min 200 (roundHalfAway (200 * x))) := by
  have hscale : (outDenom : Rat) * x = 200 * x := by norm_num [outDenom]
  rw [outChannel, hscale, clampInt_eq _ _ _ (by decide), BitVec.toNat_ofInt, outDenom]
  omega

theorem isClampedRounding_outChannel (x : Rat) :
    IsClampedRounding (200 * x) 0 200 (outChannel x).toNat :=
  ⟨_, isRounded_roundHalfAway _, outChannel_toNat x⟩

theorem isInversePixel_ypbprToRgb (v : Sample) : IsInversePixel v.y v.pb v.pr (ypbprToRgb v) := by
  have hr : (1402 / 1000 : Rat) = 701 / 500 := by norm_num
  have hgb : (344136 / 1000000 : Rat) = 43017 / 125000 := by norm_num
  have hgr : (714136 / 1000000 : Rat) = 89267 / 125000 := by norm_num
  have hb : (1772 / 1000 : Rat) = 443 / 250 := by norm_num
  unfold IsInversePixel ypbprToRgb
  rw [hr, hgb, hgr, hb]
  exact ⟨isClampedRounding_outChannel _, isClampedRounding_outChannel _,
    isClampedRounding_outChannel _⟩

theorem pix_get_inverseLane (n m : Slot) (s : State) :
    (inverseLane n s).pix.get m = if m = n then ypbprToRgb (s.sample n) else s.pix.get m :=
  Quad.get_set s.pix n m _

theorem sample_inverseLane (n m : Slot) (s : State) :
    (inverseLane n s).sample m = s.sample m := rfl

theorem pixelsOnly_four_inverseLanes (s : State) :
    PixelsOnly s (inverseLane 3 (inverseLane 2 (inverseLane 1 (inverseLane 0 s)))) :=
  ((((PixelsOnly.refl s).inverseLane 0).inverseLane 1).inverseLane 2).inverseLane 3

theorem pix_get_four_inverseLanes (m : Slot) (s : State) :
    (inverseLane 3 (inverseLane 2 (inverseLane 1 (inverseLane 0 s)))).pix.get m =
      ypbprToRgb (s.sample m) := by
  simp only [pix_get_inverseLane, sample_inverseLane]
  rcases Slot.cases m with rfl | rfl | rfl | rfl <;> rfl

/-- A slot that holds its sample's conversion holds the pixel of R121. -/
theorem isInversePixel_of_eq {s : State} {m : Slot} {p : Pixel} (h : p = ypbprToRgb (s.sample m)) :
    IsInversePixel (s.y.get m) (s.pb.get m) (s.pr.get m) p :=
  h ▸ isInversePixel_ypbprToRgb (s.sample m)

/-- Settles O36: one lane, whose slot alone changes its pixel registers. -/
theorem ccInvFollowsItsRule : Obligations.CcInvFollowsItsRule := by
  intro n s
  rw [exec_ccInv]
  refine ⟨assemble_slot _ _, _, ((PixelsOnly.refl s).inverseLane n).runCommand_eq rfl, ?_,
    fun m hm => ?_⟩
  · exact isInversePixel_of_eq ((pix_get_inverseLane n n s).trans (if_pos rfl))
  · exact (pix_get_inverseLane n m s).trans (if_neg hm)

/-- Settles O37: the four lanes by `pix_get_four_inverseLanes`. -/
theorem ccInv4FollowsItsRule : Obligations.CcInv4FollowsItsRule := by
  intro s
  rw [exec_ccInv4]
  exact ⟨rfl, _, (pixelsOnly_four_inverseLanes s).runCommand_eq rfl, fun m =>
    isInversePixel_of_eq (pix_get_four_inverseLanes m s)⟩

end Sys2Proof.Machine
end

section
/-! The chroma quantizer (42_chroma_quant.md R140 to R144): the search behind `index_of_chroma` keeps the
first index of least distance among the entries it has passed, so at the end of the table it holds the
least index of a nearest entry. -/

namespace Sys2Proof.Machine

theorem exec_cqFwd (s : State) : exec .cqFwd s = runCommand bodyCqFwd s := rfl

theorem exec_cqInv (s : State) : exec .cqInv s = runCommand bodyCqInv s := rfl

/-! ### The first least value of a sequence -/

/-- `k` is the first of the indices below `n` at which `d` is least. -/
def IsFirstMin (d : Nat → Rat) (n k : Nat) : Prop :=
  k < n ∧ (∀ j < n, d k ≤ d j) ∧ ∀ i < k, d k < d i

theorem isFirstMin_one (d : Nat → Rat) : IsFirstMin d 1 0 := by
  refine ⟨Nat.one_pos, fun j hj => ?_, nofun⟩
  rw [Nat.lt_one_iff.mp hj]

/-- A strictly smaller next value takes over. -/
theorem IsFirstMin.succ_of_lt {d : Nat → Rat} {n k : Nat} (h : IsFirstMin d n k)
    (hlt : d n < d k) : IsFirstMin d (n + 1) n := by
  obtain ⟨-, hleast, -⟩ := h
  have hbelow : ∀ i < n, d n < d i := fun i hi => hlt.trans_le (hleast i hi)
  exact ⟨n.lt_succ_self, Nat.forall_lt_succ_right.mpr ⟨fun j hj => (hbelow j hj).le, le_rfl⟩,
    hbelow⟩

/-- On a tie the index found before stays. -/
theorem IsFirstMin.succ_of_le {d : Nat → Rat} {n k : Nat} (h : IsFirstMin d n k)
    (hle : d k ≤ d n) : IsFirstMin d (n + 1) k := by
  obtain ⟨hk, hleast, hfirst⟩ := h
  exact ⟨Nat.lt_succ_of_lt hk, Nat.forall_lt_succ_right.mpr ⟨hleast, hle⟩, hfirst⟩

/-! ### The nearest entry (R141) -/

/-- The distance of `x` from the entry at index `i`. -/
def entryDist (x : Rat) (vs : List Rat) (i : Nat) : Rat := |x - vs.getD i 0|

/-- The search from index `i` on goes on with the first minimum of the entries before `i`. -/
theorem isFirstMin_nearestFrom {x : Rat} {vs rest : List Rat} {i best : Nat}
    (hsplit : vs.drop i = rest) (hi : i ≤ vs.length) (h : IsFirstMin (entryDist x vs) i best) :
    IsFirstMin (entryDist x vs) vs.length
      (nearestFrom x rest i best (entryDist x vs best)) := by
  induction rest generalizing i best with
  | nil => rwa [nearestFrom, ← hi.antisymm (List.drop_eq_nil_iff.mp hsplit)]
  | cons v rest ih =>
    have hlt : i < vs.length := by
      rw [← not_le, ← List.drop_eq_nil_iff, hsplit]
      exact List.cons_ne_nil v rest
    rw [List.drop_eq_getElem_cons hlt] at hsplit
    obtain ⟨rfl, hrest⟩ := List.cons.inj hsplit
    have hdist : |x - vs[i]| = entryDist x vs i := by
      rw [entryDist, List.getD_eq_getElem _ _ hlt]
    rw [nearestFrom, hdist]
    split_ifs with hnear
    · exact ih hrest hlt (h.succ_of_lt hnear)
    · exact ih hrest hlt (h.succ_of_le (not_lt.mp hnear))

theorem isNearestIndex_of_isFirstMin {t : ChromaTable} {x : Rat} {k : Nat}
    (h : IsFirstMin (entryDist x t.toList) 16 k) : IsNearestIndex t x k := by
  obtain ⟨hk, hleast, hfirst⟩ := h
  exact ⟨hk, hleast, fun i hi => ⟨k, hk, hfirst i hi⟩⟩

/-- `index_of_chroma` is R141's index, of any table. -/
theorem isNearestIndex_indexOfChroma (t : ChromaTable) (x : Rat) :
    IsNearestIndex t x (indexOfChroma t x) := by
  have hlen : t.toList.length = 16 := t.length_toList
  have hhead : |x - t.toList.headD 0| = entryDist x t.toList 0 := by
    rw [entryDist, List.headD_eq_getD]
  have hmin := isFirstMin_nearestFrom rfl (by omega : 1 ≤ t.toList.length)
    (isFirstMin_one (entryDist x t.toList))
  rw [hlen] at hmin
  rw [indexOfChroma, hhead]
  exact isNearestIndex_of_isFirstMin hmin

/-! ### The commands -/

/-- The index that CQ_FWD computes of a quad is R141's, of the quad's clamped average. -/
theorem isNearestIndex_clamped_average (t : ChromaTable) (q : Quad Rat) :
    IsNearestIndex t (max (-1 / 2) (min (1 / 2) ((q.s0 + q.s1 + q.s2 + q.s3) / 4)))
      (indexOfChroma t (clampRat (q.sum / 4) (-1 / 2) (1 / 2))) := by
  rw [clampRat_eq _ _ _ (by norm_num)]
  exact isNearestIndex_indexOfChroma t _

/-- Settles O41: the command completes with the two quantized averages, each of which is the least
index of a nearest entry. -/
theorem cqFwdFollowsItsRule : Obligations.CqFwdFollowsItsRule := by
  intro s
  rw [exec_cqFwd]
  exact ⟨rfl, _, _, runCommand_ok rfl, isNearestIndex_clamped_average s.chromaTable s.pb,
    isNearestIndex_clamped_average s.chromaTable s.pr⟩

/-- Inside the table `chroma_of_index` is the entry (R142). -/
theorem chromaOfIndex_of_lt (t : ChromaTable) {i : Nat} (hi : i < 16) :
    chromaOfIndex t i = t[i] := by
  rw [chromaOfIndex, List.getD_eq_getElem _ _ (t.length_toList.symm ▸ hi), Vector.getElem_toList]

theorem bodyCqInv_of_out_of_range {s : State} (h : 15 < s.cwPb.toNat ∨ 15 < s.cwPr.toNat) :
    bodyCqInv s = .error .indexRange := if_pos h

theorem bodyCqInv_of_lt {s : State} (hb : s.cwPb.toNat < 16) (hr : s.cwPr.toNat < 16) :
    bodyCqInv s = .ok { s with
      pb := .all s.chromaTable[s.cwPb.toNat], pr := .all s.chromaTable[s.cwPr.toNat] } := by
  rw [bodyCqInv, if_neg (by omega), chromaOfIndex_of_lt _ hb, chromaOfIndex_of_lt _ hr]

/-- Settles O42: the range check, and then the entries named. -/
theorem cqInvFollowsItsRule : Obligations.CqInvFollowsItsRule := by
  intro s
  rw [exec_cqInv]
  exact ⟨rfl, fun h => runCommand_eq_erred (bodyCqInv_of_out_of_range h),
    fun hb hr => runCommand_ok (bodyCqInv_of_lt hb hr)⟩

end Sys2Proof.Machine
end

section
/-! The luma transform (43_transform.md R160 to R165): `map` and `unmap` are scalings by 100 of the
coefficient itself, since their offsets of 0.3 and 30 cancel, and a code keeps the bounds of the clamped
coefficient because they are integers. -/

namespace Sys2Proof.Machine

theorem exec_dctFwd (s : State) : exec .dctFwd s = runCommand bodyDctFwd s := rfl

theorem exec_dctInv (s : State) : exec .dctInv s = runCommand bodyDctInv s := rfl

/-! ### Rounding between integers (R9) -/

/-- Rounding moves a value by at most one half, on both sides of 0. -/
theorem IsRounded.near {x : Rat} {k : Int} (h : IsRounded x k) :
    (k : Rat) - 1 / 2 ≤ x ∧ x ≤ (k : Rat) + 1 / 2 := by
  obtain ⟨hnonneg, hneg⟩ := h
  rcases le_or_gt 0 x with hx | hx
  · exact ⟨(hnonneg hx).1, (hnonneg hx).2.le⟩
  · exact ⟨(hneg hx).1.le, (hneg hx).2⟩

/-- A value between two integers is rounded to an integer between them. -/
theorem IsRounded.between {x : Rat} {k lo hi : Int} (h : IsRounded x k) (hlo : (lo : Rat) ≤ x)
    (hhi : x ≤ (hi : Rat)) : lo ≤ k ∧ k ≤ hi := by
  obtain ⟨hbelow, habove⟩ := h.near
  have hk : (lo : Rat) < ((k + 1 : Int) : Rat) := by push_cast; linarith
  have hk' : (k : Rat) < ((hi + 1 : Int) : Rat) := by push_cast; linarith
  exact ⟨Int.lt_add_one_iff.mp (Int.cast_lt.mp hk), Int.lt_add_one_iff.mp (Int.cast_lt.mp hk')⟩

/-! ### The forward transform (R160, R162, R164) -/

/-- `map` rounds 100 times the clamped coefficient: -30 + 100 * 0.3 is 0. -/
theorem mapCoeff_eq (v : Rat) :
    mapCoeff v = roundHalfAway (100 * max (-3 / 10) (min (3 / 10) v)) := by
  rw [mapCoeff, clampRat_eq _ _ _ (by norm_num [acLimit]), acScale, acLimit, neg_div]
  congr 1
  ring

theorem isDetailCode_mapCoeff (v : Rat) : IsDetailCode v (mapCoeff v) :=
  mapCoeff_eq v ▸ isRounded_roundHalfAway _

/-- The clamped coefficient lies in [-0.3, 0.3], so its code lies in -30..30 (R166). -/
theorem IsDetailCode.bounds {v : Rat} {k : Int} (h : IsDetailCode v k) : -30 ≤ k ∧ k ≤ 30 := by
  have hlo : -3 / 10 ≤ max (-3 / 10) (min (3 / 10) v) := le_max_left _ _
  have hhi : max (-3 / 10) (min (3 / 10) v) ≤ 3 / 10 := max_le (by norm_num) (min_le_left _ _)
  exact IsRounded.between h (by push_cast; linarith) (by push_cast; linarith)

/-- The code of the average is 63 times it, rounded and clamped. -/
theorem isClampedRounding_lumaForward_a (y : Quad Rat) :
    IsClampedRounding (63 * ((y.s0 + y.s1 + y.s2 + y.s3) / 4)) 0 63 (lumaForward y).a := by
  have hscale : (aScale : Rat) * (y.s0 + y.s1 + y.s2 + y.s3) / 4 =
      63 * ((y.s0 + y.s1 + y.s2 + y.s3) / 4) := by
    rw [mul_div_assoc, aScale, Int.cast_ofNat]
  refine ⟨_, isRounded_roundHalfAway _, ?_⟩
  rw [lumaForward, hscale]
  exact clampInt_eq _ _ _ (by decide)

/-- Settles O44: the command completes with the four codes, and a detail code's bounds are those of
the clamped coefficient. -/
theorem dctFwdFollowsItsRule : Obligations.DctFwdFollowsItsRule := by
  intro s
  rw [exec_dctFwd]
  have hb := isDetailCode_mapCoeff ((s.y.s3 + s.y.s2 - s.y.s1 - s.y.s0) / 4)
  have hc := isDetailCode_mapCoeff ((s.y.s3 - s.y.s2 + s.y.s1 - s.y.s0) / 4)
  have hd := isDetailCode_mapCoeff ((s.y.s3 - s.y.s2 - s.y.s1 + s.y.s0) / 4)
  exact ⟨rfl, _, _, _, _, runCommand_ok rfl, isClampedRounding_lumaForward_a s.y, hb, hc, hd,
    hb.bounds.1, hb.bounds.2, hc.bounds.1, hc.bounds.2, hd.bounds⟩

/-! ### The inverse transform (R161, R163, R165) -/

/-- `unmap` divides the code by 100: (0.6 / 60) * 30 is 0.3. -/
theorem unmapCoeff_eq (n : Int) : unmapCoeff n = (n : Rat) / 100 := by
  rw [unmapCoeff, acLimit]
  ring

/-- `inv` is the four sums of the scaled codes, of any integers. -/
theorem lumaInverse_eq {k : LumaCode} {a b c d : Rat} (ha : a = (k.a : Rat) / 63)
    (hb : b = (k.b : Rat) / 100) (hc : c = (k.c : Rat) / 100) (hd : d = (k.d : Rat) / 100) :
    lumaInverse k = ⟨a - b - c + d, a - b + c - d, a + b - c - d, a + b + c + d⟩ := by
  rw [ha, hb, hc, hd, lumaInverse, unmapCoeff_eq, unmapCoeff_eq, unmapCoeff_eq, aScale,
    Int.cast_ofNat]

/-- Settles O45: the command completes with `inv` of the registers' codes, which `lumaInverse_eq`
gives for every code. -/
theorem dctInvFollowsItsRule : Obligations.DctInvFollowsItsRule := by
  intro s a b c d ha hb hc hd
  have hbody : bodyDctInv s = .ok { s with
      y := ⟨a - b - c + d, a - b + c - d, a + b - c - d, a + b + c + d⟩ } := by
    rw [bodyDctInv, lumaInverse_eq (k := s.lumaCode) ha hb hc hd]
  rw [exec_dctInv]
  exact ⟨rfl, runCommand_ok hbody⟩

end Sys2Proof.Machine
end

section
/-! The codeword packer (44_codeword.md R180 to R182): PACK inserts its fields from the top of the
word down, so each one goes below all that was packed before it and the word stays a sum; UNPACK reads
the same fields back. -/

namespace Sys2Proof.Machine

theorem exec_pack (s : State) : exec .pack s = runCommand bodyPack s := rfl

theorem exec_unpack (s : State) : exec .unpack s = runCommand bodyUnpack s := rfl

/-! ### The fields that fit (R181) -/

theorem setU_eq_ite (word value : Word64) {w l : Nat} (h : w + l ≤ 64) :
    setU word w l value =
      if fitsU value w then .ok (insertField word w l value) else .error .overflow := by
  split_ifs with hfit
  · exact setU_ok h hfit
  · exact setU_overflow h (Bool.not_eq_true _ ▸ hfit)

theorem setS_eq_ite (word value : Word64) {w l : Nat} (h : w + l ≤ 64) :
    setS word w l value =
      if fitsS value w then .ok (insertField word w l value) else .error .overflow := by
  split_ifs with hfit
  · exact setS_ok h hfit
  · exact setS_overflow h (Bool.not_eq_true _ ▸ hfit)

/-- The fit test of an unsigned field that is shorter than a register. -/
theorem fitsU_setWidth_iff (x : Word32) {w : Nat} (h0 : w ≠ 0) (hw : w < 64) :
    fitsU (x.setWidth 64) w = true ↔ x.toNat < 2 ^ w := by
  rw [fitsU_iff, BitVec.toNat_setWidth_of_le (by decide)]
  simp [FitsUnsigned, h0, hw.ne]

/-- The fit test of a signed field that is shorter than a register. -/
theorem fitsS_signExtend_iff (x : Word32) {w : Nat} (h0 : w ≠ 0) (hw : w < 64) :
    fitsS (x.signExtend 64) w = true ↔ -2 ^ (w - 1) ≤ x.toInt ∧ x.toInt ≤ 2 ^ (w - 1) - 1 := by
  rw [fitsS_iff, BitVec.toInt_signExtend_of_le (by decide)]
  simp [FitsSigned, h0, hw.ne]

/-- The six fit tests of PACK are the ranges of the codeword registers. -/
theorem codewordInRange_iff_fits (s : State) :
    CodewordInRange s ↔
      fitsU (s.cwA.setWidth 64) 6 = true ∧ fitsS (s.cwB.signExtend 64) 6 = true ∧
      fitsS (s.cwC.signExtend 64) 6 = true ∧ fitsS (s.cwD.signExtend 64) 6 = true ∧
      fitsU (s.cwPb.setWidth 64) 4 = true ∧ fitsU (s.cwPr.setWidth 64) 4 = true := by
  rw [fitsU_setWidth_iff s.cwA, fitsS_signExtend_iff, fitsS_signExtend_iff, fitsS_signExtend_iff,
    fitsU_setWidth_iff s.cwPb, fitsU_setWidth_iff s.cwPr, CodewordInRange] <;> omega

/-- The six insertions of PACK without their fit tests. -/
def packedWord (s : State) : Word64 :=
  let w := insertField 0 6 26 (s.cwA.setWidth 64)
  let w := insertField w 6 20 (s.cwB.signExtend 64)
  let w := insertField w 6 14 (s.cwC.signExtend 64)
  let w := insertField w 6 8 (s.cwD.signExtend 64)
  let w := insertField w 4 4 (s.cwPb.setWidth 64)
  insertField w 4 0 (s.cwPr.setWidth 64)

/-- A check that raises ends the computation there; one that passes goes on with its value. -/
theorem bind_ite_error {α β : Type} (P : Prop) [Decidable P] (a : α) (c : CoreError)
    (f : α → Except CoreError β) :
    ((if P then .ok a else .error c) >>= f) = if P then f a else .error c := by
  split_ifs <;> rfl

open Classical in
/-- Whichever field fails its fit test, the error is the same. -/
theorem packFields_eq_ite (s : State) :
    packFields s = if CodewordInRange s then .ok (packedWord s) else .error .overflow := by
  simp only [packFields, setU_eq_ite, setS_eq_ite, Nat.reduceAdd, Nat.reduceLeDiff, bind_ite_error,
    codewordInRange_iff_fits, ite_and, packedWord]

theorem bodyPack_of_inRange {s : State} (h : CodewordInRange s) :
    bodyPack s = .ok { s with word := low32 (packedWord s) } := by
  rw [bodyPack, packFields_eq_ite, if_pos h]
  rfl

theorem bodyPack_of_not_inRange {s : State} (h : ¬CodewordInRange s) :
    bodyPack s = .error .overflow := by
  rw [bodyPack, packFields_eq_ite, if_neg h]
  rfl

/-! ### The packed word as a sum (R180) -/

/-- `insertField_getLsbD` at every position: beyond bit 63 there is nothing on either side. -/
theorem insertField_getLsbD_of_le (word value : Word64) {w l : Nat} (hwl : w + l ≤ 64) (k : Nat) :
    (insertField word w l value).getLsbD k =
      if l ≤ k ∧ k < l + w then value.getLsbD (k - l) else word.getLsbD k := by
  rcases Nat.lt_or_ge k 64 with hk | hk
  · exact insertField_getLsbD word value w l hk
  · rw [if_neg (by omega), BitVec.getLsbD_of_ge _ _ hk, BitVec.getLsbD_of_ge _ _ hk]

/-- A field inserted right below the bits of a word is one more digit of the number they form. -/
theorem insertField_toNat_below {word : Word64} {w l q : Nat} (value : Word64) (hwl : w + l ≤ 64)
    (hword : word.toNat = q * 2 ^ (w + l)) :
    (insertField word w l value).toNat = (2 ^ w * q + value.toNat % 2 ^ w) * 2 ^ l := by
  refine Nat.eq_of_testBit_eq fun k => ?_
  rw [BitVec.testBit_toNat, insertField_getLsbD_of_le _ _ hwl, ← BitVec.testBit_toNat word, hword,
    Nat.testBit_mul_two_pow, Nat.testBit_mul_two_pow,
    Nat.testBit_two_pow_mul_add _ (Nat.mod_lt _ (Nat.two_pow_pos w)), Nat.testBit_mod_two_pow,
    BitVec.testBit_toNat]
  by_cases hlk : l ≤ k
  · have hin : k < l + w ↔ k - l < w := by omega
    have habove : w + l ≤ k ↔ ¬k - l < w := by omega
    have hsub : k - (w + l) = k - l - w := by omega
    by_cases hkw : k - l < w <;> simp [hlk, hin, habove, hsub, hkw]
  · have hbelow : ¬w + l ≤ k := by omega
    simp [hlk, hbelow]

/-- Narrowing a sign extension gives the sign extension to the narrower width. -/
theorem setWidth_signExtend_of_le {k m n : Nat} (x : BitVec k) (h : n ≤ m) :
    (x.signExtend m).setWidth n = x.signExtend n := by
  refine BitVec.eq_of_getLsbD_eq fun i hi => ?_
  have him : i < m := hi.trans_le h
  simp only [BitVec.getLsbD_setWidth, BitVec.getLsbD_signExtend, hi, him, decide_true,
    Bool.true_and]

/-- The low bits of a register are the same after its sign extension. -/
theorem toNat_signExtend_mod (x : Word32) {w : Nat} (hw : w ≤ 32) :
    (x.signExtend 64).toNat % 2 ^ w = x.toNat % 2 ^ w := by
  rw [← BitVec.toNat_setWidth, setWidth_signExtend_of_le x (by omega),
    BitVec.signExtend_eq_setWidth_of_le x hw, BitVec.toNat_setWidth]

/-- The first field goes into a zero word, each of the others right below the one before it. -/
theorem packedWord_toNat (s : State) : (packedWord s).toNat =
    s.cwA.toNat % 64 * 2 ^ 26 + s.cwB.toNat % 64 * 2 ^ 20 + s.cwC.toNat % 64 * 2 ^ 14 +
      s.cwD.toNat % 64 * 2 ^ 8 + s.cwPb.toNat % 16 * 2 ^ 4 + s.cwPr.toNat % 16 := by
  have ha := insertField_toNat_below (word := 0) (w := 6) (l := 26) (s.cwA.setWidth 64)
    (by decide) (Nat.zero_mul _).symm
  have hb := insertField_toNat_below (w := 6) (l := 20) (s.cwB.signExtend 64) (by decide) ha
  have hc := insertField_toNat_below (w := 6) (l := 14) (s.cwC.signExtend 64) (by decide) hb
  have hd := insertField_toNat_below (w := 6) (l := 8) (s.cwD.signExtend 64) (by decide) hc
  have hpb := insertField_toNat_below (w := 4) (l := 4) (s.cwPb.setWidth 64) (by decide) hd
  have hpr := insertField_toNat_below (w := 4) (l := 0) (s.cwPr.setWidth 64) (by decide) hpb
  simp only [toNat_signExtend_mod _ (show 6 ≤ 32 by decide),
    BitVec.toNat_setWidth_of_le (show 32 ≤ 64 by decide)] at hpr
  rw [packedWord, hpr]
  omega

/-- Settles O47: inside the ranges the word is the sum of `packedWord_toNat`, whose fields are the
registers themselves and leave nothing above bit 31. -/
theorem packFollowsItsRule : Obligations.PackFollowsItsRule := by
  intro s
  rw [exec_pack]
  refine ⟨rfl, fun h => runCommand_eq_erred (bodyPack_of_not_inRange h), fun h => ?_⟩
  have hrun := runCommand_ok (bodyPack_of_inRange h)
  obtain ⟨ha, -, -, -, hpb, hpr⟩ := h
  refine ⟨_, hrun, ?_⟩
  rw [BitVec.extractLsb'_toNat, packedWord_toNat]
  omega

/-! ### Reading the fields back (R182) -/

/-- An unsigned field of WORD as a register holds it. -/
theorem toNat_getU_setWidth (word : Word32) {w : Nat} (hw : w ≤ 32) (l : Nat) :
    ((getU (word.setWidth 64) w l).setWidth 32).toNat = word.toNat / 2 ^ l % 2 ^ w := by
  have hlt : word.toNat / 2 ^ l % 2 ^ w < 2 ^ 32 :=
    (Nat.mod_lt _ (Nat.two_pow_pos w)).trans_le (Nat.pow_le_pow_right (by decide) hw)
  rw [BitVec.toNat_setWidth, getU_toNat _ (by omega), BitVec.toNat_setWidth_of_le (by decide),
    Nat.mod_eq_of_lt hlt]

/-- A signed field of WORD as a register holds it. -/
theorem toInt_getS_setWidth (word : Word32) {w l : Nat} (h0 : w ≠ 0) (hwl : l + w ≤ 32) :
    ((getS (word.setWidth 64) w l).setWidth 32).toInt = (word.extractLsb' l w).toInt := by
  rw [getS, if_neg h0, BitVec.extractLsb'_setWidth_of_le (by omega),
    setWidth_signExtend_of_le _ (by decide), BitVec.toInt_signExtend_of_le (by omega)]

/-- Settles O48: each register holds its field, by `toNat_getU_setWidth` or by
`toInt_getS_setWidth`. -/
theorem unpackFollowsItsRule : Obligations.UnpackFollowsItsRule := by
  intro s
  rw [exec_unpack]
  have hrun : runCommand bodyUnpack s = _ := runCommand_ok rfl
  have ha := toNat_getU_setWidth s.word (show 6 ≤ 32 by decide) 26
  have hb := toInt_getS_setWidth s.word (show 6 ≠ 0 by decide) (show 20 + 6 ≤ 32 by decide)
  have hc := toInt_getS_setWidth s.word (show 6 ≠ 0 by decide) (show 14 + 6 ≤ 32 by decide)
  have hd := toInt_getS_setWidth s.word (show 6 ≠ 0 by decide) (show 8 + 6 ≤ 32 by decide)
  have hpb := toNat_getU_setWidth s.word (show 4 ≤ 32 by decide) 4
  have hpr := toNat_getU_setWidth s.word (show 4 ≤ 32 by decide) 0
  exact ⟨rfl, _, _, _, _, _, _, hrun, ha.trans (by omega), hb, hc, hd, hpb, hpr.trans (by omega)⟩

end Sys2Proof.Machine
end

section
/-! Block sequencing (45_block.md R201, R204 to R208): the walk by its cases, and ENC_BLOCK and
DEC_BLOCK as four commands in a row. Between two commands of a row only the life cycle differs, which
none of them reads, and none of them raises once DENOM is not 0: what CQ_FWD and DCT_FWD leave lies in
PACK's ranges, and the indices that UNPACK leaves lie in the chroma table. -/

namespace Sys2Proof.Machine

theorem exec_nop (s : State) : exec .nop s = runCommand bodyNop s := rfl

theorem exec_blkStart (s : State) : exec .blkStart s = runCommand bodyBlkStart s := rfl

theorem exec_blkNext (s : State) : exec .blkNext s = runCommand bodyBlkNext s := rfl

theorem exec_encBlock (s : State) : exec .encBlock s = runCommand bodyEncBlock s := rfl

theorem exec_decBlock (s : State) : exec .decBlock s = runCommand bodyDecBlock s := rfl

/-! ### NOP (R208) -/

/-- Settles O50: the completion alone, which sets DONE, so that IE_DONE raises the interrupt. -/
theorem nopFollowsItsRule : Obligations.NopFollowsItsRule := by
  intro s
  rw [exec_nop]
  exact ⟨rfl, runCommand_ok rfl, fun hie => (irq_eq_true_iff _).mpr (.inl ⟨rfl, hie⟩)⟩

/-! ### BLK_START (R201, R204) -/

theorem trim_eq (n : Nat) : trim n = 2 * (n / 2) := by
  unfold trim
  omega

/-- A trimmed dimension is at most the dimension, so it fits its field of GEOM. -/
theorem toNat_ofNat_trim (x : Half) : (BitVec.ofNat 16 (trim x.toNat)).toNat = 2 * (x.toNat / 2) := by
  rw [BitVec.toNat_ofNat, trim_eq]
  omega

theorem trim_eq_zero_iff {n : Nat} : trim n = 0 ↔ n < 2 := by
  rw [trim_eq]
  omega

/-- Settles O51: the trimmed dimensions fit GEOM, and one of them is 0 exactly when the dimension is
below 2. -/
theorem blkStartFollowsItsRule : Obligations.BlkStartFollowsItsRule := by
  intro s
  rw [exec_blkStart]
  refine ⟨rfl, _, _, _, runCommand_ok rfl, toNat_ofNat_trim s.frameW,
    toNat_ofNat_trim s.frameH, ?_⟩
  rw [decide_eq_true_iff, trim_eq_zero_iff, trim_eq_zero_iff]

/-! ### BLK_NEXT (R205) -/

theorem Half.add_one_eq_ofNat (x : Half) : x + 1 = BitVec.ofNat 16 (x.toNat + 1) := by
  rw [BitVec.ofNat_add, BitVec.ofNat_toNat, BitVec.setWidth_eq]
  rfl

theorem bodyBlkNext_of_bend {s : State} (hend : s.bend = true) : bodyBlkNext s = .ok s :=
  congrArg Except.ok (if_pos hend)

theorem bodyBlkNext_of_next_column {s : State} (hend : s.bend = false)
    (hcol : s.bposCol.toNat + 1 < s.geomTw.toNat / 2) :
    bodyBlkNext s = .ok { s with bposCol := BitVec.ofNat 16 (s.bposCol.toNat + 1) } := by
  rw [bodyBlkNext, hend, if_neg Bool.false_ne_true, if_pos hcol, Half.add_one_eq_ofNat]

theorem bodyBlkNext_of_next_row {s : State} (hend : s.bend = false)
    (hcol : s.geomTw.toNat / 2 ≤ s.bposCol.toNat + 1)
    (hrow : s.bposRow.toNat + 1 < s.geomTh.toNat / 2) :
    bodyBlkNext s =
      .ok { s with bposCol := 0, bposRow := BitVec.ofNat 16 (s.bposRow.toNat + 1) } := by
  rw [bodyBlkNext, hend, if_neg Bool.false_ne_true, if_neg hcol.not_gt, if_pos hrow,
    Half.add_one_eq_ofNat]

theorem bodyBlkNext_of_last_block {s : State} (hend : s.bend = false)
    (hcol : s.geomTw.toNat / 2 ≤ s.bposCol.toNat + 1)
    (hrow : s.geomTh.toNat / 2 ≤ s.bposRow.toNat + 1) :
    bodyBlkNext s = .ok { s with bend := true } := by
  rw [bodyBlkNext, hend, if_neg Bool.false_ne_true, if_neg hcol.not_gt, if_neg hrow.not_gt]

/-- Settles O52: one case of the rule for each equation of BLK_NEXT. -/
theorem blkNextFollowsItsRule : Obligations.BlkNextFollowsItsRule := by
  intro s
  rw [exec_blkNext]
  exact ⟨rfl, fun hend => runCommand_ok (bodyBlkNext_of_bend hend),
    fun hend hcol => runCommand_ok (bodyBlkNext_of_next_column hend hcol),
    fun hend hcol hrow => runCommand_ok (bodyBlkNext_of_next_row hend hcol hrow),
    fun hend hcol hrow => runCommand_ok (bodyBlkNext_of_last_block hend hcol hrow)⟩

/-! ### Commands in a row -/

/-- A step that does not raise hands its state to the next. -/
theorem ok_bind {α β : Type} (a : α) (f : α → Except CoreError β) :
    ((.ok a : Except CoreError α) >>= f) = f a := rfl

/-- The pseudocode neither reads nor writes the life cycle, so that it does the same right after
another command's completion. -/
def IgnoresLifeCycle (body : State → Except CoreError State) : Prop :=
  ∀ s, body s.complete = (body s).map State.complete

theorem ignoresLifeCycle_bodyCqFwd : IgnoresLifeCycle bodyCqFwd := fun _ => rfl

theorem ignoresLifeCycle_bodyDctFwd : IgnoresLifeCycle bodyDctFwd := fun _ => rfl

theorem ignoresLifeCycle_bodyDctInv : IgnoresLifeCycle bodyDctInv := fun _ => rfl

theorem ignoresLifeCycle_bodyCcInv4 : IgnoresLifeCycle bodyCcInv4 := fun _ => rfl

theorem ignoresLifeCycle_bodyCqInv : IgnoresLifeCycle bodyCqInv := by
  intro s
  by_cases h : 15 < s.cwPb.toNat ∨ 15 < s.cwPr.toNat
  · rw [bodyCqInv_of_out_of_range h, bodyCqInv_of_out_of_range (s := s.complete) h]
    rfl
  · have hpb : s.cwPb.toNat < 16 := by omega
    have hpr : s.cwPr.toNat < 16 := by omega
    rw [bodyCqInv_of_lt hpb hpr, bodyCqInv_of_lt (s := s.complete) hpb hpr]
    rfl

theorem packFields_complete (s : State) : packFields s.complete = packFields s := rfl

theorem ignoresLifeCycle_bodyPack : IgnoresLifeCycle bodyPack := by
  intro s
  rw [bodyPack, bodyPack, packFields_complete]
  cases packFields s <;> rfl

/-- A command of a row does after the completion of the one before it what its pseudocode does without
that completion. -/
theorem IgnoresLifeCycle.runCommand_complete {body : State → Except CoreError State} {s t : State}
    (hbody : IgnoresLifeCycle body) (h : body s = .ok t) :
    runCommand body s.complete = .next t.complete :=
  runCommand_ok (t := t.complete) (by rw [hbody s, h, Except.map])

/-! ### ENC_BLOCK (R206) -/

/-- A detail code as its register holds it: inside six signed bits. -/
theorem toInt_toReg_of_detail {k : Int} (h : -30 ≤ k ∧ k ≤ 30) :
    -32 ≤ (toReg k).toInt ∧ (toReg k).toInt ≤ 31 := by
  have hk : (toReg k).toInt = k := BitVec.toInt_ofInt_eq_self (by decide) (by omega) (by omega)
  omega

theorem IsClampedRounding.toReg_toNat_le {x : Rat} {k : Int} (h : IsClampedRounding x 0 63 k) :
    (toReg k).toNat ≤ 63 := by
  obtain ⟨m, -, hk⟩ := h
  rw [toReg, BitVec.toNat_ofInt]
  omega

/-- An index of the chroma table is a four-bit number. -/
theorem quantizeChroma_toNat_le (t : ChromaTable) (q : Quad Rat) :
    (quantizeChroma t q).toNat ≤ 15 := by
  have hlt : indexOfChroma t (clampRat (q.sum / 4) (-1 / 2) (1 / 2)) < 16 :=
    (isNearestIndex_indexOfChroma t _).1
  rw [quantizeChroma, BitVec.toNat_ofNat]
  omega

/-- What CQ_FWD and DCT_FWD leave in the codeword registers, PACK accepts (R166, R181). -/
theorem codewordInRange_of_cqFwd_dctFwd {u1 u2 u3 : State} (hcq : bodyCqFwd u1 = .ok u2)
    (hdct : bodyDctFwd u2 = .ok u3) : CodewordInRange u3 := by
  cases hcq
  cases hdct
  exact ⟨(isClampedRounding_lumaForward_a u1.y).toReg_toNat_le,
    toInt_toReg_of_detail (isDetailCode_mapCoeff _).bounds,
    toInt_toReg_of_detail (isDetailCode_mapCoeff _).bounds,
    toInt_toReg_of_detail (isDetailCode_mapCoeff _).bounds,
    quantizeChroma_toNat_le _ u1.pb, quantizeChroma_toNat_le _ u1.pr⟩

theorem SamplesOnly.err_eq {s t : State} (h : SamplesOnly s t) : t.err = s.err := by
  rw [h]

theorem bodyEncBlock_of_denom_zero {s : State} (hd : s.denom = 0) :
    bodyEncBlock s = .error .denomZero := by
  have hcheck : bodyCcFwd4 s = .error .denomZero := if_pos hd
  rw [bodyEncBlock, hcheck]
  rfl

/-- The four steps of ENC_BLOCK where DENOM is not 0: none raises, and none writes ERR. -/
theorem bodyEncBlock_steps {s : State} (hd : s.denom ≠ 0) :
    ∃ u1 u2 u3 u4, bodyCcFwd4 s = .ok u1 ∧ bodyCqFwd u1 = .ok u2 ∧ bodyDctFwd u2 = .ok u3 ∧
      bodyPack u3 = .ok u4 ∧ bodyEncBlock s = .ok u4 ∧ u4.err = s.err := by
  obtain ⟨u1, h1, he1⟩ : ∃ u1, bodyCcFwd4 s = .ok u1 ∧ u1.err = s.err :=
    ⟨_, if_neg hd, (samplesOnly_four_forwardLanes s.denom s).err_eq⟩
  obtain ⟨u2, h2, he2⟩ : ∃ u2, bodyCqFwd u1 = .ok u2 ∧ u2.err = u1.err := ⟨_, rfl, rfl⟩
  obtain ⟨u3, h3, he3⟩ : ∃ u3, bodyDctFwd u2 = .ok u3 ∧ u3.err = u2.err := ⟨_, rfl, rfl⟩
  have h4 := bodyPack_of_inRange (codewordInRange_of_cqFwd_dctFwd h2 h3)
  refine ⟨u1, u2, u3, _, h1, h2, h3, h4, ?_, he3.trans (he2.trans he1)⟩
  rw [bodyEncBlock, h1, ok_bind, h2, ok_bind, h3, ok_bind, h4]

/-- Settles O55: the steps of `bodyEncBlock_steps`, each run as a command after the completion of the
one before it. -/
theorem encBlockIsItsFourSteps : Obligations.EncBlockIsItsFourSteps := by
  intro s
  simp only [exec_ccFwd4, exec_cqFwd, exec_dctFwd, exec_pack, exec_encBlock]
  refine ⟨rfl, fun hd => runCommand_eq_erred (bodyEncBlock_of_denom_zero hd), fun hd => ?_⟩
  obtain ⟨u1, u2, u3, u4, hcc, hcq, hdct, hpack, henc, herr⟩ := bodyEncBlock_steps hd
  exact ⟨_, _, _, _, runCommand_ok hcc, ignoresLifeCycle_bodyCqFwd.runCommand_complete hcq,
    ignoresLifeCycle_bodyDctFwd.runCommand_complete hdct,
    ignoresLifeCycle_bodyPack.runCommand_complete hpack, runCommand_ok henc, herr.trans⟩

/-! ### DEC_BLOCK (R207) -/

/-- A four-bit field of WORD is an index of the chroma table. -/
theorem getU_four_toNat_lt (word : Word32) (l : Nat) :
    ((getU (word.setWidth 64) 4 l).setWidth 32).toNat < 16 :=
  (toNat_getU_setWidth word (by decide) l).trans_lt (Nat.mod_lt _ (by decide))

theorem cwPb_cwPr_lt_of_unpack {s u : State} (h : bodyUnpack s = .ok u) :
    u.cwPb.toNat < 16 ∧ u.cwPr.toNat < 16 := by
  cases h
  exact ⟨getU_four_toNat_lt s.word 4, getU_four_toNat_lt s.word 0⟩

/-- The four steps of DEC_BLOCK: none raises. -/
theorem bodyDecBlock_steps (s : State) :
    ∃ u1 u2 u3 u4, bodyUnpack s = .ok u1 ∧ bodyCqInv u1 = .ok u2 ∧ bodyDctInv u2 = .ok u3 ∧
      bodyCcInv4 u3 = .ok u4 ∧ bodyDecBlock s = .ok u4 := by
  obtain ⟨u1, h1⟩ : ∃ u1, bodyUnpack s = .ok u1 := ⟨_, rfl⟩
  obtain ⟨hpb, hpr⟩ := cwPb_cwPr_lt_of_unpack h1
  have h2 := bodyCqInv_of_lt hpb hpr
  refine ⟨u1, _, _, _, h1, h2, rfl, rfl, ?_⟩
  rw [bodyDecBlock, h1, ok_bind, h2]
  rfl

/-- Settles O56: the steps of `bodyDecBlock_steps`, each run as a command after the completion of the
one before it. -/
theorem decBlockIsItsFourSteps : Obligations.DecBlockIsItsFourSteps := by
  intro s
  simp only [exec_unpack, exec_cqInv, exec_dctInv, exec_ccInv4, exec_decBlock]
  obtain ⟨u1, u2, u3, u4, hunpack, hcq, hdct, hcc, hdec⟩ := bodyDecBlock_steps s
  exact ⟨rfl, _, _, _, _, runCommand_ok hunpack, ignoresLifeCycle_bodyCqInv.runCommand_complete hcq,
    ignoresLifeCycle_bodyDctInv.runCommand_complete hdct,
    ignoresLifeCycle_bodyCcInv4.runCommand_complete hcc, runCommand_ok hdec⟩

end Sys2Proof.Machine
end

section
/-! Writes while a command is in flight (70_reset_and_hazards.md R275), and the state that either reset
leaves (R270, R271): no register reads any of the fields that a reset keeps. -/

namespace Sys2Proof.Machine

theorem readReg_resetCore (s : State) (r : Reg) : readReg s.resetCore r = resetRead r := by
  rw [← readReg_reset r]
  cases r <;> rfl

theorem holdsResetValues_resetCore (s : State) : HoldsResetValues s.resetCore where
  reads := readReg_resetCore s
  y := rfl
  pb := rfl
  pr := rfl
  pending := rfl
  irq := rfl

/-- The response is not the core's: it may be given before the reset or after it. -/
theorem resetCore_with_resp (s : State) (p : BusResponse) :
    { s.resetCore with resp := p } = { s with resp := p }.resetCore := rfl

theorem writeCtrl_of_reset {v : Word32} (h : v.getLsbD 31 = true) (s : State) :
    writeCtrl v s = s.resetCore :=
  if_pos h

theorem writeReg_of_busy {r : Reg} {s : State} (hb : s.busy = true) (hctrl : r ≠ .ctrl)
    (hstatus : r ≠ .status) (hcmd : r ≠ .cmd) (v : Word32) : writeReg r v s = s := by
  rcases writeReg_cases r v s with ⟨rfl, -⟩ | ⟨rfl, -⟩ | ⟨rfl, -⟩ | ⟨-, -, -, -, hdrop⟩ |
    ⟨-, -, -, hidle, -⟩
  · exact absurd rfl hctrl
  · exact absurd rfl hstatus
  · exact absurd rfl hcmd
  · exact hdrop
  · exact absurd (hb.symm.trans hidle) nofun

/-- While BUSY = 1 a write to CMD changes ERR alone, and not an older code. -/
theorem issue_eq_of_busy {s : State} (hb : s.busy = true) (v : Word32) :
    issue v s = { s with err := if s.err = none then some .cmdWhileBusy else s.err } := by
  by_cases he : s.err = none
  · rw [issue_of_busy he hb, if_pos he]
  · rw [issue_of_error he, if_neg he]

/-- Settles O11: the step is `writeReg` at the cycle's state, whose BUSY and ERR are those of `s`; the
registers other than CTRL, STATUS and CMD by `writeReg_of_busy`. -/
theorem busyDropsOperandWrites : Obligations.BusyDropsOperandWrites := by
  intro s off r v rest hc hb hr hbus
  rw [step_writeReg hc hr hbus]
  refine ⟨fun hctrl hstatus hcmd => ?_, ?_, ?_, ?_, ?_⟩
  · rw [writeReg_of_busy (by exact hb) hctrl hstatus hcmd]
  · rintro rfl hv
    rw [writeReg, writeCtrl_of_no_reset hv]
  · rintro rfl hv
    rw [writeReg, writeCtrl_of_reset hv, resetCore_with_resp]
    exact ⟨_, rfl, holdsResetValues_resetCore _⟩
  · rintro rfl
    rw [writeReg, writeStatus_eq]
  · rintro rfl
    rw [writeReg, issue_eq_of_busy (by exact hb)]

end Sys2Proof.Machine
end

section
/-! The decoder and the encoder are inverse (30_encoding.md R80, R82, R86): a word with legal fields
is decoded by the row of its opcode, which alone hits it, and each row and its command have one
word. -/

namespace Sys2Proof

theorem OpRow.eq_of_opc_eq {r r' : OpRow} (hr : r ∈ opRows) (hr' : r' ∈ opRows)
    (h : r.opc = r'.opc) : r = r' :=
  List.inj_on_of_nodup_map opRows_opc_nodup hr hr' h

/-- A word with legal fields is decoded by the row of its opcode. -/
theorem decode_assemble_of_row {r : OpRow} (hr : r ∈ opRows) {f : CmdFields} (hopc : r.opc = f.opc)
    (hlegal : f.legal = true) : decode (assemble f) = .ok (r.build f.s f.w f.l) := by
  have hhits : r.hits (assemble f) = true := by
    rw [hits_iff_legal hr, ofWord_assemble]
    exact ⟨hopc, hlegal⟩
  rw [decode_assemble]
  cases hfind : opRows.find? fun r => r.hits (assemble f) with
  | none => exact absurd hhits (List.find?_eq_none.mp hfind r hr)
  | some r' =>
    have hr' : r' ∈ opRows := List.mem_of_find?_eq_some hfind
    have hopc' := ((hits_iff_legal hr' _).mp (List.find?_some (p := (OpRow.hits · _)) hfind)).1
    rw [ofWord_assemble, ← hopc] at hopc'
    rw [OpRow.eq_of_opc_eq hr' hr hopc']

/-- Every command is well formed, at every value of its operands. -/
theorem wellFormed (i : Instr) : i.WellFormed = true := by
  open Laws.FieldsLegal in
  cases i with
  | nop => exact nop
  | ccFwd s => exact ccFwd s
  | ccInv s => exact ccInv s
  | ccFwd4 => exact ccFwd4
  | ccInv4 => exact ccInv4
  | dctFwd => exact dctFwd
  | dctInv => exact dctInv
  | cqFwd => exact cqFwd
  | cqInv => exact cqInv
  | pack => exact pack
  | unpack => exact unpack
  | encBlock => exact encBlock
  | decBlock => exact decBlock
  | bfFitsU w => exact bfFitsU w
  | bfFitsS w => exact bfFitsS w
  | bfGetU w l => exact bfGetU w l
  | bfGetS w l => exact bfGetS w l
  | bfSetU w l => exact bfSetU w l
  | bfSetS w l => exact bfSetS w l
  | blkStart => exact blkStart
  | blkNext => exact blkNext

/-- The row at index `k` of the match/mask list is that of the command `i`: it has the opcode of the
command's word and builds the command from the fields of that word. -/
def IsRowOf (k : Nat) (i : Instr) : Prop :=
  ∃ r f, opRows[k]? = some r ∧ encode i = assemble f ∧ r.opc = f.opc ∧ r.build f.s f.w f.l = i

theorem exists_row (i : Instr) : ∃ k, IsRowOf k i := by
  cases i with
  | nop => exact ⟨0, _, _, rfl, rfl, rfl, rfl⟩
  | ccFwd s => exact ⟨1, _, _, rfl, rfl, rfl, rfl⟩
  | ccInv s => exact ⟨2, _, _, rfl, rfl, rfl, rfl⟩
  | ccFwd4 => exact ⟨3, _, _, rfl, rfl, rfl, rfl⟩
  | ccInv4 => exact ⟨4, _, _, rfl, rfl, rfl, rfl⟩
  | dctFwd => exact ⟨5, _, _, rfl, rfl, rfl, rfl⟩
  | dctInv => exact ⟨6, _, _, rfl, rfl, rfl, rfl⟩
  | cqFwd => exact ⟨7, _, _, rfl, rfl, rfl, rfl⟩
  | cqInv => exact ⟨8, _, _, rfl, rfl, rfl, rfl⟩
  | pack => exact ⟨9, _, _, rfl, rfl, rfl, rfl⟩
  | unpack => exact ⟨10, _, _, rfl, rfl, rfl, rfl⟩
  | encBlock => exact ⟨11, _, _, rfl, rfl, rfl, rfl⟩
  | decBlock => exact ⟨12, _, _, rfl, rfl, rfl, rfl⟩
  | bfFitsU w => exact ⟨13, _, _, rfl, rfl, rfl, rfl⟩
  | bfFitsS w => exact ⟨14, _, _, rfl, rfl, rfl, rfl⟩
  | bfGetU w l => exact ⟨15, _, _, rfl, rfl, rfl, rfl⟩
  | bfGetS w l => exact ⟨16, _, _, rfl, rfl, rfl, rfl⟩
  | bfSetU w l => exact ⟨17, _, _, rfl, rfl, rfl, rfl⟩
  | bfSetS w l => exact ⟨18, _, _, rfl, rfl, rfl, rfl⟩
  | blkStart => exact ⟨19, _, _, rfl, rfl, rfl, rfl⟩
  | blkNext => exact ⟨20, _, _, rfl, rfl, rfl, rfl⟩

theorem decode_encode (i : Instr) : decode (encode i) = .ok i := by
  obtain ⟨k, r, f, hrow, henc, hopc, hbuild⟩ := exists_row i
  have hlegal : f.legal = true := by
    rw [← ofWord_assemble f, ← henc]
    exact wellFormed i
  rw [henc, decode_assemble_of_row (List.mem_of_getElem? hrow) hopc hlegal, hbuild]

/-- Settles O1: the row of the command decodes its word and builds the command (`decode_encode`). -/
theorem decodeOfEncodeIsTheCommand : Obligations.DecodeOfEncodeIsTheCommand := decode_encode

/-- A field that the opcode does not use is 0 in the word of a command. -/
def FieldsUsed.keep (u : FieldsUsed) (f : CmdFields) : CmdFields :=
  ⟨f.opc, if u.s then f.s else 0, 0, if u.w then f.w else 0, if u.l then f.l else 0⟩

theorem ite_zero_eq_self_iff {n : Nat} (x : BitVec n) (used : Bool) :
    (if used then x else 0) = x ↔ (used || x == 0) = true := by
  cases used with
  | true => simp
  | false => simpa using eq_comm

theorem FieldsUsed.keep_of_legal {f : CmdFields} {u : FieldsUsed} (hu : fieldsUsed f.opc = some u)
    (h : f.legal = true) : u.keep f = f := by
  obtain ⟨hrsv, hs, hw, hl⟩ := (CmdFields.legal_iff hu).mp h
  rw [FieldsUsed.keep, (ite_zero_eq_self_iff _ _).mpr hs, (ite_zero_eq_self_iff _ _).mpr hw,
    (ite_zero_eq_self_iff _ _).mpr hl, ← hrsv]

/-- The word of the command that a row builds has the row's opcode and the operands its opcode uses.
-/
theorem encode_build {r : OpRow} (hr : r ∈ opRows) (s : Slot) (w l : Byte) :
    (fieldsUsed r.opc).map (fun u => assemble (u.keep ⟨r.opc, s, 0, w, l⟩)) =
      some (encode (r.build s w l)) := by
  simp only [opRows, List.cons_append, List.nil_append, List.mem_cons, List.not_mem_nil,
    or_false] at hr
  rcases hr with rfl | rfl | rfl | rfl | rfl | rfl | rfl | rfl | rfl | rfl | rfl | rfl | rfl |
    rfl | rfl | rfl | rfl | rfl | rfl | rfl | rfl <;> rfl

/-- A word that a row hits is the word of the command that the row builds from its fields. -/
theorem encode_build_of_hits {r : OpRow} (hr : r ∈ opRows) {v : Word32} (h : r.hits v = true) :
    encode (r.build (CmdFields.ofWord v).s (CmdFields.ofWord v).w (CmdFields.ofWord v).l) = v := by
  obtain ⟨hopc, hlegal⟩ := (hits_iff_legal hr v).mp h
  obtain ⟨u, hu, hword⟩ := Option.map_eq_some_iff.mp
    (encode_build hr (CmdFields.ofWord v).s (CmdFields.ofWord v).w (CmdFields.ofWord v).l)
  have hkeep := FieldsUsed.keep_of_legal (hopc ▸ hu) hlegal
  rw [← hword, hopc]
  exact (congrArg assemble hkeep).trans (assemble_ofWord v)

/-- Settles O2: the decoder builds the command by a row that hits the word. -/
theorem decodedWordIsTheCommandsWord : Obligations.DecodedWordIsTheCommandsWord := by
  intro v i h
  unfold decode at h
  split at h
  · cases h
    exact encode_build_of_hits (List.mem_of_find?_eq_some ‹_›)
      (List.find?_some (p := (OpRow.hits · v)) ‹_›)
  · cases h

/-- Settles O4: each word is the encoding of its command. -/
theorem wordsOfTheSpecDecode : Obligations.WordsOfTheSpecDecode :=
  ⟨decode_encode .nop, decode_encode (.ccFwd 3), decode_encode .cqInv, decode_encode .dctFwd,
   decode_encode .pack, decode_encode .decBlock, decode_encode (.bfFitsU 6),
   decode_encode (.bfSetS 6 20), decode_encode .blkNext⟩

end Sys2Proof
end

section
/-! The window as the host reaches it (20_memory.md R60 to R62; 30_encoding.md R88): the register
map read in both directions, and the accesses that are not defined. -/

namespace Sys2Proof.Machine

theorem Reg.offset_lt (r : Reg) : r.offset < 256 := by
  cases r with
  | pix n c =>
    have hn := n.isLt
    cases c <;> simp only [Reg.offset, Channel.index] <;> omega
  | pxy n =>
    have hn := n.isLt
    simp only [Reg.offset]
    omega
  | _ => decide

/-- Read from register to offset and back, the map gives the register. -/
theorem regAt_offset (r : Reg) : regAt (BitVec.ofNat 8 r.offset) = some r := by
  cases r with
  | pix n c => rcases Slot.cases n with rfl | rfl | rfl | rfl <;> cases c <;> rfl
  | pxy n => rcases Slot.cases n with rfl | rfl | rfl | rfl <;> rfl
  | _ => rfl

theorem regAt_eq_some_iff {off : Byte} {r : Reg} : regAt off = some r ↔ r.offset = off.toNat := by
  refine ⟨offset_of_regAt, fun h => ?_⟩
  have hoff : BitVec.ofNat 8 r.offset = off := by rw [h, BitVec.ofNat_toNat, BitVec.setWidth_eq]
  rw [← hoff, regAt_offset]

theorem windowOffset_of_lt (base : Nat) {k : Nat} (h : k < 256) :
    windowOffset base (base + k) = some (BitVec.ofNat 8 k) := by
  rw [windowOffset, if_pos (by omega), Nat.add_sub_cancel_left]

theorem windowOffset_outside {base addr : Nat} (h : addr < base ∨ base + 256 ≤ addr) :
    windowOffset base addr = none :=
  if_neg (by omega)

/-- Settles O5: the two directions of the map by `regAt_eq_some_iff`, the address by the offset's
bound. -/
theorem registerMapIsOneMap : Obligations.RegisterMapIsOneMap := fun _ r base _ =>
  ⟨regAt_eq_some_iff, r.offset_mod_four, r.offset_lt,
   ⟨_, windowOffset_of_lt base r.offset_lt, regAt_offset r⟩, windowOffset_outside⟩

theorem definedAccess_eq_false {off : Byte} {size : Nat} (h : ¬(size = 4 ∧ off.toNat % 4 = 0)) :
    definedAccess off size = false := by
  simpa [definedAccess] using h

/-- Settles O6: an access that is not defined leaves the response of a bus error, and a read's free
value. -/
theorem undefinedAccessIsABusError : Obligations.UndefinedAccessIsABusError := by
  intro s off size v rest hc hundef
  have hdef := definedAccess_eq_false hundef
  constructor
  · intro hb
    rw [step_busEvent hc hb, busEvent, busRead, hdef]
    rfl
  · intro hb
    rw [step_busEvent hc hb, busEvent, busWrite, hdef]
    rfl

end Sys2Proof.Machine
end

section
/-! A write that only stores (20_memory.md R66): what every register reads after it. -/

namespace Sys2Proof.Machine

/-- A store reaches the register written and no other. -/
theorem readReg_storeReg {r : Reg} (h : (storableBits r).isSome = true) (v : Word32) (s : State)
    (r' : Reg) :
    readReg (storeReg r v s) r' = if r' = r then readReg (storeReg r v s) r else readReg s r' := by
  cases r with
  | pix n c =>
    cases r' with
    | pix m d =>
      simp only [readReg, storeReg, Quad.get_set, Reg.pix.injEq]
      by_cases hm : m = n
      · subst hm
        by_cases hd : d = c <;> simp [Pixel.get_set, hd]
      · simp [hm]
    | _ => rfl
  | denom | cwA | cwB | cwC | cwD | cwPb | cwPr | word | bfWordLo | bfWordHi | bfValueLo | bfValueHi
  | frameW | frameH => cases r' <;> rfl
  | _ => cases h

/-- A 16-bit field keeps the low half of the value written. -/
theorem setWidth_half_setWidth (v : Word32) : (v.setWidth 16).setWidth 32 = v &&& 0x0000FFFF := by
  have hmask : (0x0000FFFF : Word32) = (BitVec.allOnes 16).setWidth 32 := by decide
  refine BitVec.eq_of_getLsbD_eq fun i hi => ?_
  rw [hmask, BitVec.getLsbD_and]
  simp only [BitVec.getLsbD_setWidth, BitVec.getLsbD_allOnes, hi, decide_true, Bool.true_and]
  exact Bool.and_comm _ _

/-- A storing register then reads as written, masked to its writable bits. -/
theorem readReg_storeReg_same {r : Reg} {m : Word32} (h : storableBits r = some m) (v : Word32)
    (s : State) : readReg (storeReg r v s) r = v &&& m := by
  cases r with
  | denom | frameW | frameH =>
    cases h
    exact setWidth_half_setWidth v
  | pix n c =>
    cases h
    simp only [readReg, storeReg, Quad.get_set_same, Pixel.get_set, if_pos]
    exact setWidth_half_setWidth v
  | cwA | cwB | cwC | cwD | cwPb | cwPr | word | bfWordLo | bfWordHi | bfValueLo | bfValueHi =>
    cases h
    exact BitVec.and_allOnes.symm
  | _ => cases h

/-- The fields that a store can reach are operand registers. -/
theorem storeReg_frame (r : Reg) (v : Word32) (s : State) :
    let t := storeReg r v s
    t = { s with
      denom := t.denom, pix := t.pix, cwA := t.cwA, cwB := t.cwB, cwC := t.cwC, cwD := t.cwD
      cwPb := t.cwPb, cwPr := t.cwPr, word := t.word, bfWordLo := t.bfWordLo
      bfWordHi := t.bfWordHi, bfValueLo := t.bfValueLo, bfValueHi := t.bfValueHi
      frameW := t.frameW, frameH := t.frameH } := by
  cases r <;> rfl

/-- The response is no register. -/
theorem readReg_with_resp (s : State) (p : BusResponse) (r : Reg) :
    readReg { s with resp := p } r = readReg s r := by
  cases r <;> rfl

/-- What waits and what is to come is no register. -/
theorem readReg_with_wait_bus (s : State) (n : Nat) (rest : List BusEvent) (r : Reg) :
    readReg { s with wait := n, bus := rest } r = readReg s r := by
  cases r <;> rfl

theorem writeReg_eq_storeReg {r : Reg} (hm : (storableBits r).isSome = true) {s : State}
    (hb : s.busy = false) (v : Word32) : writeReg r v s = storeReg r v s := by
  cases r with
  | ctrl | status | cmd => cases hm
  | _ => exact if_neg (Bool.not_eq_true _ ▸ hb)

/-- Settles O9: the write is a store, which one register reads (`readReg_storeReg`), and which
leaves the sample file and the command tracking (`storeReg_frame`). -/
theorem storedRegisterReadsBack : Obligations.StoredRegisterReadsBack := by
  intro s off r v m rest hc hb hr hm hbus
  have hsome : (storableBits r).isSome = true := Option.isSome_of_eq_some hm
  rw [step_writeReg hc hr hbus, writeReg_eq_storeReg hsome (by exact hb)]
  refine ⟨_, rfl, fun r' => ?_, ?_⟩
  · rw [readReg_with_resp, readReg_storeReg hsome, readReg_storeReg_same hm, readReg_with_wait_bus]
  · rw [storeReg_frame]
    exact ⟨rfl, rfl, rfl, rfl, rfl, rfl⟩

end Sys2Proof.Machine
end

section
/-! The read hazard (70_reset_and_hazards.md R276): a read is free exactly at a destination of the
command in flight, and STATUS, CTRL and CMD are no command's destination. -/

namespace Sys2Proof.Machine

theorem busRead_of_regAt {off : Byte} {r : Reg} (hr : regAt off = some r) (s : State) :
    busRead off 4 s =
      if (s.busy && pendingWrites s r) = true then
        { s.draw with resp := .readData (Config.freeWord s.draws) }
      else { s with resp := .readData (readReg s r) } := by
  simp [busRead, definedAccess_of_regAt hr, hr]

theorem pendingWrites_iff {s : State} {v : Word32} {i : Instr} (hp : s.pending = some v)
    (hd : decode v = .ok i) (r : Reg) : pendingWrites s r = true ↔ r ∈ destinations i := by
  simp [pendingWrites, hp, hd]

/-- The registers of the life cycle. -/
def IsLifeCycleReg (r : Reg) : Prop := r = .status ∨ r = .ctrl ∨ r = .cmd

theorem IsLifeCycleReg.not_mem_destinations {r : Reg} (h : IsLifeCycleReg r) (i : Instr) :
    r ∉ destinations i := by
  rcases h with rfl | rfl | rfl <;> cases i <;>
    simp [destinations, pixRegs, allPixRegs, codewordRegs, bfResultRegs]

theorem IsLifeCycleReg.pendingWrites_eq_false {r : Reg} (h : IsLifeCycleReg r) (s : State) :
    pendingWrites s r = false := by
  unfold pendingWrites
  split
  · rfl
  · split
    · simpa using h.not_mem_destinations _
    · rfl

theorem step_read_free {s : State} {off : Byte} {r : Reg} {rest : List BusEvent}
    (hc : BusCycleNext s) (hr : regAt off = some r) (hbus : s.bus = .read off 4 :: rest)
    (hfree : (s.busy && pendingWrites s r) = true) :
    step s = .next { s with
      bus := rest, wait := s.wait - 1, draws := s.draws + 1
      resp := .readData (Config.freeWord s.draws) } := by
  rw [step_busEvent hc hbus, busEvent, busRead_of_regAt hr, if_pos (by exact hfree)]
  rfl

theorem step_read_exact {s : State} {off : Byte} {r : Reg} {rest : List BusEvent}
    (hc : BusCycleNext s) (hr : regAt off = some r) (hbus : s.bus = .read off 4 :: rest)
    (hexact : (s.busy && pendingWrites s r) = false) :
    step s = .next { s with
      bus := rest, wait := s.wait - 1, resp := .readData (readReg s r) } := by
  rw [step_busEvent hc hbus, busEvent, busRead_of_regAt hr,
    if_neg (by exact Bool.not_eq_true _ ▸ hexact), readReg_with_wait_bus]

/-- Settles O12: the read is free exactly when BUSY = 1 and the register is a destination. -/
theorem onlyABusyReadOfADestinationIsFree : Obligations.OnlyABusyReadOfADestinationIsFree := by
  intro s off r rest hc hr hbus
  refine ⟨fun v i hb hp hd => ⟨fun hmem => ?_, fun hmem => ?_⟩, fun h => ?_⟩
  · exact step_read_free hc hr hbus (by simp [hb, (pendingWrites_iff hp hd r).mpr hmem])
  · refine step_read_exact hc hr hbus ?_
    rw [← pendingWrites_iff hp hd, Bool.not_eq_true] at hmem
    rw [hmem, Bool.and_false]
  · refine step_read_exact hc hr hbus ?_
    rcases h with hidle | hreg
    · rw [hidle, Bool.false_and]
    · rw [IsLifeCycleReg.pendingWrites_eq_false hreg, Bool.and_false]

end Sys2Proof.Machine
end

section
/-! STATUS (10_state.md R24): its fields at their bits. -/

namespace Sys2Proof.Machine

theorem statusWord_getLsbD_busy (s : State) : s.statusWord.getLsbD 0 = s.busy := by
  rw [State.statusWord, BitVec.getLsbD_append]
  simp

theorem statusWord_getLsbD_done (s : State) : s.statusWord.getLsbD 1 = s.done := by
  rw [State.statusWord]
  iterate 2 rw [BitVec.getLsbD_append]
  simp

/-- STATUS.ERR stands at bits 7:4, above the four bits of BUSY, DONE and a reserved field. -/
theorem statusWord_extract_err (s : State) : s.statusWord.extractLsb' 4 4 = errCode s.err := by
  refine BitVec.eq_of_getLsbD_eq fun i hi => ?_
  rw [BitVec.getLsbD_extractLsb', State.statusWord]
  iterate 5 rw [BitVec.getLsbD_append]
  have h1 : 4 + i - 1 - 1 - 2 = i := by omega
  simp only [hi, decide_true, Bool.true_and, h1]
  rw [if_neg (by omega), if_neg (by omega), if_neg (by omega), if_pos trivial]

/-- Settles O14: the fields of `statusWord`, and the codes of R241. -/
theorem statusShowsBusyDoneAndError : Obligations.StatusShowsBusyDoneAndError := by
  intro s
  rw [readReg, statusWord_extract_err]
  refine ⟨statusWord_getLsbD_busy s, statusWord_getLsbD_done s, errCode_eq_zero_iff, ?_⟩
  cases s.err with
  | none => rfl
  | some c => cases c <;> rfl

end Sys2Proof.Machine
end

section
/-! What a command's completion can do (70_reset_and_hazards.md R274, R276; 10_state.md R45;
60_exceptions.md R242): it raises one of the four errors of an execution and writes nothing, or it
completes having written at most its destinations and its part of the sample file. -/

namespace Sys2Proof.Machine

/-- The pseudocode of each command. -/
def bodyOf : Instr → State → Except CoreError State
  | .nop => bodyNop
  | .ccFwd n => bodyCcFwd n
  | .ccInv n => bodyCcInv n
  | .ccFwd4 => bodyCcFwd4
  | .ccInv4 => bodyCcInv4
  | .dctFwd => bodyDctFwd
  | .dctInv => bodyDctInv
  | .cqFwd => bodyCqFwd
  | .cqInv => bodyCqInv
  | .pack => bodyPack
  | .unpack => bodyUnpack
  | .encBlock => bodyEncBlock
  | .decBlock => bodyDecBlock
  | .bfFitsU w => bodyBfFitsU w
  | .bfFitsS w => bodyBfFitsS w
  | .bfGetU w l => bodyBfGetU w l
  | .bfGetS w l => bodyBfGetS w l
  | .bfSetU w l => bodyBfSetU w l
  | .bfSetS w l => bodyBfSetS w l
  | .blkStart => bodyBlkStart
  | .blkNext => bodyBlkNext

theorem exec_eq_runCommand (i : Instr) (s : State) : exec i s = runCommand (bodyOf i) s := by
  cases i <;> rfl

/-- The state `s` with what the command `i` may write taken from `u`: its destinations (R276) and
its part of the sample file (R45). -/
def written (i : Instr) (s u : State) : State :=
  match i with
  | .nop => s
  | .ccFwd n => s.setSample n (u.sample n)
  | .ccInv n => { s with pix := s.pix.set n (u.pix.get n) }
  | .ccFwd4 => { s with y := u.y, pb := u.pb, pr := u.pr }
  | .ccInv4 => { s with pix := u.pix }
  | .dctFwd => { s with cwA := u.cwA, cwB := u.cwB, cwC := u.cwC, cwD := u.cwD }
  | .dctInv => { s with y := u.y }
  | .cqFwd => { s with cwPb := u.cwPb, cwPr := u.cwPr }
  | .cqInv => { s with pb := u.pb, pr := u.pr }
  | .pack => { s with word := u.word }
  | .unpack => { s with
      cwA := u.cwA, cwB := u.cwB, cwC := u.cwC, cwD := u.cwD, cwPb := u.cwPb, cwPr := u.cwPr }
  | .encBlock => { s with
      cwA := u.cwA, cwB := u.cwB, cwC := u.cwC, cwD := u.cwD, cwPb := u.cwPb, cwPr := u.cwPr
      word := u.word, y := u.y, pb := u.pb, pr := u.pr }
  | .decBlock => { s with
      cwA := u.cwA, cwB := u.cwB, cwC := u.cwC, cwD := u.cwD, cwPb := u.cwPb, cwPr := u.cwPr
      pix := u.pix, y := u.y, pb := u.pb, pr := u.pr }
  | .bfFitsU _ | .bfFitsS _ | .bfGetU _ _ | .bfGetS _ _ | .bfSetU _ _ | .bfSetS _ _ =>
    { s with bfResultLo := u.bfResultLo, bfResultHi := u.bfResultHi }
  | .blkStart => { s with
      geomTw := u.geomTw, geomTh := u.geomTh, bposCol := u.bposCol, bposRow := u.bposRow
      bend := u.bend }
  | .blkNext => { s with bposCol := u.bposCol, bposRow := u.bposRow, bend := u.bend }

/-! ### The bodies that complete -/

theorem sample_setSample_same (s : State) (n : Slot) (v : Sample) :
    (s.setSample n v).sample n = v := by
  rw [sample_setSample, if_pos rfl]

theorem bodyCcFwd_frame {n : Slot} {s u : State} (h : bodyCcFwd n s = .ok u) :
    u = s.setSample n (u.sample n) := by
  unfold bodyCcFwd at h
  split_ifs at h
  cases h
  rw [forwardLane, sample_setSample_same]

theorem bodyCcFwd4_frame {s u : State} (h : bodyCcFwd4 s = .ok u) : SamplesOnly s u := by
  unfold bodyCcFwd4 at h
  split_ifs at h
  cases h
  exact samplesOnly_four_forwardLanes s.denom s

theorem bodyCcInv_frame {n : Slot} {s u : State} (h : bodyCcInv n s = .ok u) :
    u = { s with pix := s.pix.set n (u.pix.get n) } := by
  cases h
  rw [pix_get_inverseLane, if_pos rfl, inverseLane]

theorem bodyCcInv4_frame {s u : State} (h : bodyCcInv4 s = .ok u) : PixelsOnly s u := by
  cases h
  exact pixelsOnly_four_inverseLanes s

theorem bodyCqInv_frame {s u : State} (h : bodyCqInv s = .ok u) :
    u = { s with pb := u.pb, pr := u.pr } := by
  unfold bodyCqInv at h
  split_ifs at h
  cases h
  rfl

theorem bodyPack_frame {s u : State} (h : bodyPack s = .ok u) : u = { s with word := u.word } := by
  unfold bodyPack at h
  cases hw : packFields s with
  | error c => rw [hw] at h; cases h
  | ok w => rw [hw] at h; cases h; rfl

/-- The one register pair that a bit-field command writes. -/
def ResultOnly (s u : State) : Prop :=
  u = { s with bfResultLo := u.bfResultLo, bfResultHi := u.bfResultHi }

/-! A fit test or an extraction is a result behind a width check. -/

theorem bodyBfFitsU_eq_map (w : Byte) (s : State) : bodyBfFitsU w s =
    (checkWidth w.toNat).map fun _ => s.setBfResult (fitResult (fitsU s.bfValue w.toNat)) := by
  unfold bodyBfFitsU
  cases checkWidth w.toNat <;> rfl

theorem bodyBfFitsS_eq_map (w : Byte) (s : State) : bodyBfFitsS w s =
    (checkWidth w.toNat).map fun _ => s.setBfResult (fitResult (fitsS s.bfValue w.toNat)) := by
  unfold bodyBfFitsS
  cases checkWidth w.toNat <;> rfl

theorem bodyBfGetU_eq_map (w l : Byte) (s : State) : bodyBfGetU w l s =
    (checkField w.toNat l.toNat).map fun _ => s.setBfResult (getU s.bfWord w.toNat l.toNat) := by
  unfold bodyBfGetU
  cases checkField w.toNat l.toNat <;> rfl

theorem bodyBfGetS_eq_map (w l : Byte) (s : State) : bodyBfGetS w l s =
    (checkField w.toNat l.toNat).map fun _ => s.setBfResult (getS s.bfWord w.toNat l.toNat) := by
  unfold bodyBfGetS
  cases checkField w.toNat l.toNat <;> rfl

theorem resultOnly_of_map {α : Type} {x : Except CoreError α} {f : α → Word64} {s u : State}
    (h : x.map (fun a => s.setBfResult (f a)) = .ok u) : ResultOnly s u := by
  cases x with
  | error c => cases h
  | ok a => cases h; rfl

theorem denom_ne_zero_of_bodyEncBlock {s u : State} (h : bodyEncBlock s = .ok u) : s.denom ≠ 0 := by
  intro hd
  rw [bodyEncBlock_of_denom_zero hd] at h
  cases h

/-- ENC_BLOCK writes what its four steps write. -/
theorem bodyEncBlock_frame {s u : State} (h : bodyEncBlock s = .ok u) :
    u = written .encBlock s u := by
  obtain ⟨u1, u2, u3, u4, hcc, hcq, hdct, hpack, henc, -⟩ :=
    bodyEncBlock_steps (denom_ne_zero_of_bodyEncBlock h)
  cases henc.symm.trans h
  cases hcq
  cases hdct
  rw [bodyPack_frame hpack, bodyCcFwd4_frame hcc]
  rfl

/-- DEC_BLOCK writes what its four steps write. -/
theorem bodyDecBlock_frame {s u : State} (h : bodyDecBlock s = .ok u) :
    u = written .decBlock s u := by
  obtain ⟨u1, u2, u3, u4, hunpack, hcq, hdct, hcc, hdec⟩ := bodyDecBlock_steps s
  cases hdec.symm.trans h
  cases hunpack
  cases hdct
  rw [bodyCcInv4_frame hcc, bodyCqInv_frame hcq]
  rfl

theorem bodyBlkNext_frame {s u : State} (h : bodyBlkNext s = .ok u) :
    u = { s with bposCol := u.bposCol, bposRow := u.bposRow, bend := u.bend } := by
  unfold bodyBlkNext at h
  split_ifs at h <;> cases h <;> rfl

/-- A command that does not raise writes at most its destinations and its part of the sample file.
-/
theorem bodyOf_frame {i : Instr} {s u : State} (h : bodyOf i s = .ok u) : u = written i s u := by
  cases i with
  | nop | dctFwd | dctInv | cqFwd | unpack | blkStart => cases h; rfl
  | ccFwd n => exact bodyCcFwd_frame h
  | ccInv n => exact bodyCcInv_frame h
  | ccFwd4 => exact bodyCcFwd4_frame h
  | ccInv4 => exact bodyCcInv4_frame h
  | cqInv => exact bodyCqInv_frame h
  | pack => exact bodyPack_frame h
  | encBlock => exact bodyEncBlock_frame h
  | decBlock => exact bodyDecBlock_frame h
  | bfFitsU w => exact resultOnly_of_map ((bodyBfFitsU_eq_map w s).symm.trans h)
  | bfFitsS w => exact resultOnly_of_map ((bodyBfFitsS_eq_map w s).symm.trans h)
  | bfGetU w l => exact resultOnly_of_map ((bodyBfGetU_eq_map w l s).symm.trans h)
  | bfGetS w l => exact resultOnly_of_map ((bodyBfGetS_eq_map w l s).symm.trans h)
  | bfSetU | bfSetS => exact resultOnly_of_map h
  | blkNext => exact bodyBlkNext_frame h

/-! ### The bodies that raise -/

/-- The errors that a command's execution can raise (60_exceptions.md R248). -/
def IsExecutionError (c : CoreError) : Prop :=
  c = .invalidWidth ∨ c = .overflow ∨ c = .denomZero ∨ c = .indexRange

theorem isExecutionError_invalidWidth : IsExecutionError .invalidWidth := .inl rfl
theorem isExecutionError_overflow : IsExecutionError .overflow := .inr (.inl rfl)
theorem isExecutionError_denomZero : IsExecutionError .denomZero := .inr (.inr (.inl rfl))
theorem isExecutionError_indexRange : IsExecutionError .indexRange := .inr (.inr (.inr rfl))

theorem checkWidth_eq_error {w : Nat} {c : CoreError} (h : checkWidth w = .error c) :
    c = .invalidWidth := by
  unfold checkWidth at h
  split_ifs at h
  cases h
  rfl

theorem checkField_eq_error {w l : Nat} {c : CoreError} (h : checkField w l = .error c) :
    c = .invalidWidth := by
  unfold checkField at h
  split_ifs at h
  cases h
  rfl

theorem setU_eq_error {word value : Word64} {w l : Nat} {c : CoreError}
    (h : setU word w l value = .error c) : IsExecutionError c := by
  rcases Nat.lt_or_ge 64 (w + l) with hwl | hwl
  · cases (setU_invalid hwl).symm.trans h
    exact isExecutionError_invalidWidth
  · rw [setU_eq_ite _ _ hwl] at h
    split_ifs at h
    cases h
    exact isExecutionError_overflow

theorem setS_eq_error {word value : Word64} {w l : Nat} {c : CoreError}
    (h : setS word w l value = .error c) : IsExecutionError c := by
  rcases Nat.lt_or_ge 64 (w + l) with hwl | hwl
  · cases (setS_invalid hwl).symm.trans h
    exact isExecutionError_invalidWidth
  · rw [setS_eq_ite _ _ hwl] at h
    split_ifs at h
    cases h
    exact isExecutionError_overflow

theorem eq_error_of_map {α β : Type} {x : Except CoreError α} {f : α → β} {c : CoreError}
    (h : x.map f = .error c) : x = .error c := by
  cases x with
  | error c' => cases h; rfl
  | ok a => cases h

theorem bodyEncBlock_eq_error {s : State} {c : CoreError} (h : bodyEncBlock s = .error c) :
    c = .denomZero := by
  by_cases hd : s.denom = 0
  · cases (bodyEncBlock_of_denom_zero hd).symm.trans h
    rfl
  · obtain ⟨_, _, _, _, _, _, _, _, henc, _⟩ := bodyEncBlock_steps hd
    cases henc.symm.trans h

theorem bodyPack_eq_error {s : State} {c : CoreError} (h : bodyPack s = .error c) :
    c = .overflow := by
  by_cases hr : CodewordInRange s
  · cases (bodyPack_of_inRange hr).symm.trans h
  · cases (bodyPack_of_not_inRange hr).symm.trans h
    rfl

theorem isExecutionError_of_bodyOf {i : Instr} {s : State} {c : CoreError}
    (h : bodyOf i s = .error c) : IsExecutionError c := by
  cases i with
  | nop | ccInv | ccInv4 | dctFwd | dctInv | cqFwd | unpack | blkStart | blkNext => cases h
  | ccFwd n =>
    simp only [bodyOf, bodyCcFwd] at h
    split_ifs at h
    cases h
    exact isExecutionError_denomZero
  | ccFwd4 =>
    simp only [bodyOf, bodyCcFwd4] at h
    split_ifs at h
    cases h
    exact isExecutionError_denomZero
  | cqInv =>
    simp only [bodyOf, bodyCqInv] at h
    split_ifs at h
    cases h
    exact isExecutionError_indexRange
  | pack => exact bodyPack_eq_error h ▸ isExecutionError_overflow
  | encBlock => exact bodyEncBlock_eq_error h ▸ isExecutionError_denomZero
  | decBlock =>
    obtain ⟨_, _, _, _, _, _, _, _, hdec⟩ := bodyDecBlock_steps s
    cases hdec.symm.trans h
  | bfFitsU w =>
    exact checkWidth_eq_error (eq_error_of_map ((bodyBfFitsU_eq_map w s).symm.trans h)) ▸
      isExecutionError_invalidWidth
  | bfFitsS w =>
    exact checkWidth_eq_error (eq_error_of_map ((bodyBfFitsS_eq_map w s).symm.trans h)) ▸
      isExecutionError_invalidWidth
  | bfGetU w l =>
    exact checkField_eq_error (eq_error_of_map ((bodyBfGetU_eq_map w l s).symm.trans h)) ▸
      isExecutionError_invalidWidth
  | bfGetS w l =>
    exact checkField_eq_error (eq_error_of_map ((bodyBfGetS_eq_map w l s).symm.trans h)) ▸
      isExecutionError_invalidWidth
  | bfSetU => exact setU_eq_error (eq_error_of_map h)
  | bfSetS => exact setS_eq_error (eq_error_of_map h)

/-! ### All that a completion can do -/

theorem exec_cases {i : Instr} {s t : State} (h : exec i s = .next t) :
    (∃ u, bodyOf i s = .ok u ∧ u = written i s u ∧ t = u.complete) ∨
    (∃ c, IsExecutionError c ∧ t = s.raiseError c) := by
  rw [exec_eq_runCommand] at h
  rcases runCommand_cases h with ⟨u, hu, ht⟩ | ⟨c, hc, ht⟩
  · exact .inl ⟨u, hu, bodyOf_frame hu, ht⟩
  · exact .inr ⟨c, isExecutionError_of_bodyOf hc, ht⟩

/-- What no command writes: CTRL, STATUS, CMD, the operands that are no destination, the chroma
table and the model's own fields. -/
theorem written_frame (i : Instr) (s u : State) :
    let t := written i s u
    t = { s with
      pix := t.pix, cwA := t.cwA, cwB := t.cwB, cwC := t.cwC, cwD := t.cwD, cwPb := t.cwPb
      cwPr := t.cwPr, word := t.word, bfResultLo := t.bfResultLo, bfResultHi := t.bfResultHi
      geomTw := t.geomTw, geomTh := t.geomTh, bposCol := t.bposCol, bposRow := t.bposRow
      bend := t.bend, y := t.y, pb := t.pb, pr := t.pr } := by
  cases i <;> rfl

theorem exec_idle {i : Instr} {s t : State} (h : exec i s = .next t) :
    t.busy = false ∧ t.done = true ∧ t.pending = none := by
  rcases exec_cases h with ⟨u, -, -, rfl⟩ | ⟨c, -, rfl⟩ <;> exact ⟨rfl, rfl, rfl⟩

theorem exec_keeps_wait_and_chromaTable {i : Instr} {s t : State} (h : exec i s = .next t) :
    t.wait = s.wait ∧ t.chromaTable = s.chromaTable := by
  rcases exec_cases h with ⟨u, -, hu, rfl⟩ | ⟨c, -, rfl⟩
  · rw [hu, written_frame]
    exact ⟨rfl, rfl⟩
  · exact ⟨rfl, rfl⟩

theorem exec_next (i : Instr) (s : State) : ∃ t, exec i s = .next t := by
  rw [exec_eq_runCommand]
  exact runCommand_next _ _

/-- Settles O19: by `exec_cases`; what is unchanged is what `written_frame` or the raise leaves. -/
theorem everyCommandCompletes : Obligations.EveryCommandCompletes := by
  intro i s
  obtain ⟨t, ht⟩ := exec_next i s
  refine ⟨t, ht, ?_⟩
  rcases exec_cases ht with ⟨u, -, hu, rfl⟩ | ⟨c, -, rfl⟩
  · rw [hu, written_frame]
    simp
  · simp

theorem sameData_raiseError (s : State) (c : CoreError) : SameData s (s.raiseError c) := by
  constructor <;> rfl

/-- Settles O20: only a raise changes ERR, only over ERR = 0, and it writes nothing else. -/
theorem raisingCommandWritesNothing : Obligations.RaisingCommandWritesNothing := by
  intro i s t h hne
  rcases exec_cases h with ⟨u, -, hu, rfl⟩ | ⟨c, hc, rfl⟩
  · rw [hu, written_frame] at hne
    exact absurd rfl hne
  · cases he : s.err with
    | some e => simp [he] at hne
    | none =>
      refine ⟨sameData_raiseError s c, rfl, ?_⟩
      simpa [he, IsExecutionError] using hc

/-! ### The registers a command changes (R276) -/

theorem readReg_complete {r : Reg} (h : r ≠ .status) (s : State) :
    readReg s.complete r = readReg s r := by
  cases r with
  | status => exact absurd rfl h
  | _ => rfl

theorem readReg_raiseError {r : Reg} (h : r ≠ .status) (s : State) (c : CoreError) :
    readReg (s.raiseError c) r = readReg s r := by
  cases r with
  | status => exact absurd rfl h
  | _ => rfl

theorem mem_pixRegs_iff {n m : Slot} {c : Channel} : Reg.pix m c ∈ pixRegs n ↔ m = n := by
  cases c <;> simp [pixRegs]

/-- The registers that follow from BPOS, which BLK_NEXT moves with it. -/
def FollowsBpos (r : Reg) : Prop := r = .cwidx ∨ ∃ n, r = .pxy n

/-- A register that is a destination reads what was written, any other what it read before. -/
theorem readReg_written {i : Instr} {r : Reg} (hnext : i = .blkNext → ¬FollowsBpos r)
    (s u : State) :
    readReg (written i s u) r = if r ∈ destinations i then readReg u r else readReg s r := by
  cases i with
  | ccInv n =>
    cases r with
    | pix m c =>
      simp only [written, readReg, destinations, mem_pixRegs_iff, Quad.get_set]
      by_cases hm : m = n
      · subst hm
        simp
      · simp [hm]
    | _ => rfl
  | blkNext =>
    cases r with
    | cwidx => exact absurd (.inl rfl) (hnext rfl)
    | pxy n => exact absurd (.inr ⟨n, rfl⟩) (hnext rfl)
    | _ => rfl
  | _ =>
    cases r with
    | pix n c => rcases Slot.cases n with rfl | rfl | rfl | rfl <;> cases c <;> rfl
    | pxy n => rcases Slot.cases n with rfl | rfl | rfl | rfl <;> rfl
    | _ => rfl

/-- Settles O21: what a completion writes is `written`, whose registers are the destinations; a
raise writes STATUS alone. -/
theorem commandWritesOnlyItsDestinations : Obligations.CommandWritesOnlyItsDestinations := by
  intro i s t r h hr hstatus hnext
  rcases exec_cases h with ⟨u, -, hu, rfl⟩ | ⟨c, -, rfl⟩
  · have hbpos : i = .blkNext → ¬FollowsBpos r := by
      rintro hi (hcwidx | ⟨n, hpxy⟩)
      · exact (hnext hi).1 hcwidx
      · exact (hnext hi).2 n hpxy
    rw [readReg_complete hstatus, hu, readReg_written hbpos, if_neg hr]
  · exact readReg_raiseError hstatus s c

/-! ### The sample file (10_state.md R45) -/

theorem written_ccFwd_samples {n m : Slot} (hm : m ≠ n) (s u : State) :
    (written (.ccFwd n) s u).sample m = s.sample m := by
  rw [written, sample_setSample, if_neg hm]

theorem written_no_samples {i : Instr} (hfwd : ∀ n, i ≠ .ccFwd n) (hfwd4 : i ≠ .ccFwd4)
    (henc : i ≠ .encBlock) (hdec : i ≠ .decBlock) (hdct : i ≠ .dctInv) (hcq : i ≠ .cqInv)
    (s u : State) :
    (written i s u).y = s.y ∧ (written i s u).pb = s.pb ∧ (written i s u).pr = s.pr := by
  cases i with
  | ccFwd n => exact absurd rfl (hfwd n)
  | ccFwd4 => exact absurd rfl hfwd4
  | encBlock => exact absurd rfl henc
  | decBlock => exact absurd rfl hdec
  | dctInv => exact absurd rfl hdct
  | cqInv => exact absurd rfl hcq
  | _ => exact ⟨rfl, rfl, rfl⟩

/-- Settles O22: the part of the sample file in `written`; a raise leaves it whole. -/
theorem sampleFileHasOnlyItsWriters : Obligations.SampleFileHasOnlyItsWriters := by
  intro i s t h
  rcases exec_cases h with ⟨u, -, hu, rfl⟩ | ⟨c, -, rfl⟩
  · rw [hu]
    refine ⟨?_, ?_, ?_, fun hfwd hfwd4 henc hdec hdct hcq =>
      written_no_samples hfwd hfwd4 henc hdec hdct hcq s u⟩
    · rintro n m rfl hm
      have hsame := written_ccFwd_samples hm s u
      exact ⟨congrArg Sample.y hsame, congrArg Sample.pb hsame, congrArg Sample.pr hsame⟩
    · rintro rfl
      exact ⟨rfl, rfl⟩
    · rintro rfl
      rfl
  · exact ⟨fun _ _ _ _ => ⟨rfl, rfl, rfl⟩, fun _ => ⟨rfl, rfl⟩, fun _ => rfl,
      fun _ _ _ _ _ _ => ⟨rfl, rfl, rfl⟩⟩

end Sys2Proof.Machine
end

section
/-! What a bus cycle can do: an event is a reset (70_reset_and_hazards.md R270, R271), or it
answers, or it reaches one of CTRL, STATUS, CMD and the storing registers (20_memory.md R66;
30_encoding.md R87). -/

namespace Sys2Proof.Machine

/-- All that an event which is no reset can do to the core. -/
inductive EventEffect (s : State) : State → Prop
  /-- A response, or no access at all: reads, bus errors, reserved offsets and dropped writes. -/
  | answer (d : Nat) (p : BusResponse) : EventEffect s { s with draws := d, resp := p }
  | ctrl (a b : Bool) (p : BusResponse) :
    EventEffect s { s with ieDone := a, ieErr := b, resp := p }
  | status (d : Bool) (p : BusResponse) : EventEffect s { s with done := s.done && d, resp := p }
  | issue (v : Word32) (p : BusResponse) : EventEffect s { issue v s with resp := p }
  | store (r : Reg) (v : Word32) (p : BusResponse) (hidle : s.busy = false) :
    EventEffect s { storeReg r v s with resp := p }

/-- A defined write to CTRL is at CTRL's offset. -/
theorem eq_ctrl_of_definedAccess {off : Byte} {size : Nat} (hdef : definedAccess off size = true)
    (hr : regAt off = some .ctrl) : off = 0x04 ∧ size = 4 := by
  refine ⟨BitVec.eq_of_toNat_eq (offset_of_regAt hr).symm, ?_⟩
  simp only [definedAccess, Bool.and_eq_true, beq_iff_eq] at hdef
  exact hdef.1

theorem eventEffect_busWrite {off : Byte} {size : Nat} {v : Word32}
    (h : NoReset (.write off size v)) (s : State) : EventEffect s (busWrite off size v s) := by
  rcases busWrite_cases off size v s with ⟨-, hw⟩ | ⟨-, -, hw⟩ | ⟨r, hdef, hr, hw⟩
  · rw [hw]
    exact .answer s.draws _
  · rw [hw]
    exact .answer s.draws _
  · rw [hw]
    rcases writeReg_cases r v s with ⟨rfl, hreg⟩ | ⟨-, hreg⟩ | ⟨-, hreg⟩ | ⟨-, -, -, -, hreg⟩ |
      ⟨-, -, -, hidle, hreg⟩
    · obtain ⟨hoff, hsize⟩ := eq_ctrl_of_definedAccess hdef hr
      have hv : v.getLsbD 31 = false := Bool.not_eq_true _ ▸ fun hv => h ⟨hoff, hsize, hv⟩
      rw [hreg, writeCtrl_of_no_reset hv]
      exact .ctrl _ _ _
    · rw [hreg, writeStatus_eq]
      exact .status _ _
    · rw [hreg]
      exact .issue v _
    · rw [hreg]
      exact .answer s.draws _
    · rw [hreg]
      exact .store r v _ hidle

theorem eventEffect_of_noReset {e : BusEvent} (h : NoReset e) (s : State) :
    EventEffect s (busEvent e s) := by
  cases e with
  | idle => exact .answer s.draws s.resp
  | read off size =>
    obtain ⟨d, p, hread⟩ := busRead_frame off size s
    rw [busEvent, hread]
    exact .answer d p
  | write off size v => exact eventEffect_busWrite h s
  | hardReset => exact absurd h id

theorem regAt_ctrl : regAt 0x04 = some .ctrl := rfl

/-- Either reset leaves the reset core, with its response. -/
theorem busEvent_of_reset {e : BusEvent} (h : ¬NoReset e) (s : State) :
    ∃ p, busEvent e s = { s with resp := p }.resetCore := by
  cases e with
  | idle => exact absurd trivial h
  | read => exact absurd trivial h
  | hardReset => exact ⟨s.resp, rfl⟩
  | write off size v =>
    obtain ⟨rfl, rfl, hv⟩ := not_not.mp h
    rw [busEvent, busWrite_of_regAt regAt_ctrl, writeReg, writeCtrl_of_reset hv,
      resetCore_with_resp]
    exact ⟨_, rfl⟩

/-- A cycle is the next event of the bus; after the last the bus is idle. -/
theorem busCycle_eq (s : State) :
    busCycle s =
      busEvent (s.bus.headD .idle) { s with wait := s.wait - 1, bus := s.bus.tail } := by
  cases h : s.bus with
  | cons e rest => rw [busCycle_cons h]; rfl
  | nil =>
    rw [busCycle_nil h]
    show _ = { s with wait := s.wait - 1, bus := [] }
    rw [← h]

/-! ### Resets and the error state (60_exceptions.md R243, R249) -/

/-- Settles O16: the event leaves the reset core, whose accesses to come are the rest. -/
theorem hardResetRestoresResetValues : Obligations.HardResetRestoresResetValues := by
  intro s rest hc hb
  rw [step_busEvent hc hb]
  exact ⟨_, rfl, holdsResetValues_resetCore _, rfl⟩

theorem step_softReset {s : State} {v : Word32} {rest : List BusEvent} (hc : BusCycleNext s)
    (hb : s.bus = .write 0x04 4 v :: rest) (hv : v.getLsbD 31 = true) :
    step s = .next
      { s with wait := s.wait - 1, bus := rest, resp := .writeDone }.resetCore := by
  rw [step_writeReg hc regAt_ctrl hb, writeReg, writeCtrl_of_reset hv, resetCore_with_resp]

theorem recordError_of_ne_none {e : Option CoreError} (h : e ≠ none) (c : CoreError) :
    recordError e c = e := by
  cases e with
  | none => exact absurd rfl h
  | some e => rfl

/-- No command changes a recorded error. -/
theorem exec_err_of_ne_none {i : Instr} {s t : State} (h : exec i s = .next t)
    (he : s.err ≠ none) : t.err = s.err := by
  rcases exec_cases h with ⟨u, -, hu, rfl⟩ | ⟨c, -, rfl⟩
  · rw [hu, written_frame]
    rfl
  · exact recordError_of_ne_none he c

/-- No event that is no reset changes a recorded error. -/
theorem EventEffect.err_of_ne_none {s t : State} (h : EventEffect s t) (he : s.err ≠ none) :
    t.err = s.err := by
  cases h with
  | answer | ctrl | status => rfl
  | issue v p => rw [issue_of_error he]
  | store r v p => rw [storeReg_frame]

/-- A step that changes a recorded error is a cycle whose event is a reset. -/
theorem reset_of_err_changed {s t : State} (h : step s = .next t) (he : s.err ≠ none)
    (hne : t.err ≠ s.err) : BusCycleNext s ∧ ∃ e rest, s.bus = e :: rest ∧ ¬NoReset e := by
  rcases step_cases h with ⟨hc, rfl⟩ | ⟨v, i, -, -, hexec⟩
  · refine ⟨?_, ?_⟩
    · unfold State.completing at hc
      split_ifs at hc with hw
      · exact .inl hc
      · exact .inr hw
    · cases hbus : s.bus with
      | nil => exact absurd (congrArg State.err (busCycle_nil hbus)) hne
      | cons e rest =>
        refine ⟨e, rest, rfl, fun hno => hne ?_⟩
        rw [busCycle_cons hbus]
        exact (eventEffect_of_noReset hno _).err_of_ne_none he
  · exact absurd (exec_err_of_ne_none hexec he) hne

/-- Settles O17: the write leaves the reset core (`step_softReset`); nothing but a reset changes a
recorded error (`reset_of_err_changed`). -/
theorem softResetIsTheOnlyWayBack : Obligations.SoftResetIsTheOnlyWayBack := by
  refine ⟨fun s v rest hc hb hv => ?_, fun _ _ => reset_of_err_changed⟩
  exact ⟨_, step_softReset hc hb hv, holdsResetValues_resetCore _, rfl, rfl⟩

end Sys2Proof.Machine
end

section
/-! The invariant of the core (10_state.md R24, R36 to R38, R46): a completion leaves no command
pending, an event tracks the command it issues, and only BLK_START and BLK_NEXT move the walk. -/

namespace Sys2Proof.Machine

/-! ### The command tracking -/

theorem trackingAgrees_of_idle {s : State} (hb : s.busy = false) (hp : s.pending = none)
    (hw : s.wait = 0) : TrackingAgrees s where
  busy_iff := by rw [hb, hp]; rfl
  holds_cmd v hv := by rw [hp] at hv; cases hv
  decodes v hv := by rw [hp] at hv; cases hv
  not_done h := by rw [hb] at h; cases h
  error h := by rw [hb] at h; cases h
  no_wait _ := hw

theorem trackingAgrees_resetCore (s : State) : TrackingAgrees s.resetCore :=
  trackingAgrees_of_idle rfl rfl rfl

theorem trackingAgrees_of_exec {i : Instr} {s t : State} (hw : s.wait = 0)
    (h : exec i s = .next t) : TrackingAgrees t := by
  obtain ⟨hbusy, -, hpending⟩ := exec_idle h
  exact trackingAgrees_of_idle hbusy hpending ((exec_keeps_wait_and_chromaTable h).1.trans hw)

theorem TrackingAgrees.issue {s : State} (h : TrackingAgrees s) (v : Word32) :
    TrackingAgrees (issue v s) := by
  obtain ⟨hbusy, hcmd, hdecodes, hdone, herror, hwait⟩ := h
  rcases issue_cases v s with ⟨-, heq⟩ | ⟨-, -, heq⟩ | ⟨-, hidle, -, heq⟩ | ⟨i, he, -, hd, heq⟩
  · rw [heq]
    exact ⟨hbusy, hcmd, hdecodes, hdone, herror, hwait⟩
  · rw [heq]
    exact ⟨hbusy, hcmd, hdecodes, hdone, fun _ => .inr rfl, hwait⟩
  · have hp : s.pending = none := by simpa [hidle] using hbusy
    rw [heq]
    exact trackingAgrees_of_idle hidle hp (hwait hp)
  · rw [heq]
    exact ⟨rfl, fun _ => Option.some.inj, fun w hw => ⟨i, Option.some.inj hw ▸ hd⟩, fun _ => rfl,
      fun _ => .inl he, nofun⟩

theorem EventEffect.trackingAgrees {s t : State} (h : EventEffect s t) (hs : TrackingAgrees s) :
    TrackingAgrees t := by
  obtain ⟨hbusy, hcmd, hdecodes, hdone, herror, hwait⟩ := hs
  cases h with
  | answer | ctrl => exact ⟨hbusy, hcmd, hdecodes, hdone, herror, hwait⟩
  | status d p =>
    refine ⟨hbusy, hcmd, hdecodes, fun hb => ?_, herror, hwait⟩
    exact (congrArg (· && d) (hdone hb)).trans (Bool.false_and d)
  | issue v p =>
    obtain ⟨hbusy, hcmd, hdecodes, hdone, herror, hwait⟩ :=
      TrackingAgrees.issue ⟨hbusy, hcmd, hdecodes, hdone, herror, hwait⟩ v
    exact ⟨hbusy, hcmd, hdecodes, hdone, herror, hwait⟩
  | store r v p =>
    rw [storeReg_frame]
    exact ⟨hbusy, hcmd, hdecodes, hdone, herror, hwait⟩

/-- The cycle before its event: one cycle of LAT has passed. -/
theorem TrackingAgrees.cycle {s : State} (h : TrackingAgrees s) (rest : List BusEvent) :
    TrackingAgrees { s with wait := s.wait - 1, bus := rest } := by
  obtain ⟨hbusy, hcmd, hdecodes, hdone, herror, hwait⟩ := h
  exact ⟨hbusy, hcmd, hdecodes, hdone, herror, fun hp => congrArg (· - 1) (hwait hp)⟩

theorem TrackingAgrees.busEvent {s : State} (hs : TrackingAgrees s) (e : BusEvent) :
    TrackingAgrees (busEvent e s) := by
  by_cases h : NoReset e
  · exact (eventEffect_of_noReset h s).trackingAgrees hs
  · obtain ⟨p, hp⟩ := busEvent_of_reset h s
    rw [hp]
    exact trackingAgrees_resetCore _

theorem TrackingAgrees.busCycle {s : State} (hs : TrackingAgrees s) :
    TrackingAgrees (busCycle s) := by
  rw [busCycle_eq]
  exact (hs.cycle _).busEvent _

/-- Settles O26: a pending word is a command, and every command completes. -/
theorem consistentCoreNeverStops : Obligations.ConsistentCoreNeverStops := by
  intro s h
  cases hc : s.completing with
  | none => exact ⟨_, step_busCycle hc⟩
  | some v =>
    obtain ⟨-, hp⟩ := completing_some_iff.mp hc
    obtain ⟨i, hd⟩ := h.decodes v hp
    obtain ⟨t, ht⟩ := exec_next i s
    exact ⟨t, by rw [step, hc, ← ht]; simp only [hd]⟩

/-- Settles O18: the step finds the pending word completing. -/
theorem stepRunsThePendingCommand : Obligations.StepRunsThePendingCommand := by
  intro s v i hp hw hd
  have hc : s.completing = some v := completing_some_iff.mpr ⟨hw, hp⟩
  simp [step, hc, hd]

/-! ### The walk -/

/-- The walk reads nothing but the geometry, the position and BEND. -/
theorem WalkInGrid.congr {s t : State} (h : WalkInGrid s) (htw : t.geomTw = s.geomTw)
    (hth : t.geomTh = s.geomTh) (hcol : t.bposCol = s.bposCol) (hrow : t.bposRow = s.bposRow)
    (hend : t.bend = s.bend) : WalkInGrid t := by
  obtain ⟨htw', hth', hcol', hrow', hcol'', hrow''⟩ := h
  rw [← htw, ← hcol, ← hend] at hcol'
  rw [← hth, ← hrow, ← hend] at hrow'
  exact ⟨htw ▸ htw', hth ▸ hth', hcol', hrow', hcol ▸ hcol'', hrow ▸ hrow''⟩

theorem walkInGrid_reset : WalkInGrid State.reset :=
  ⟨rfl, rfl, nofun, nofun, by decide, by decide⟩

/-- The first column and row are below the greatest grid's bound. -/
theorem zero_fits : (0 : Half).toNat < 32767 := by decide

/-- A walk starts at the first block, unless there is none. -/
theorem walkInGrid_of_blkStart {s u : State} (h : bodyBlkStart s = .ok u) : WalkInGrid u := by
  cases h
  have htw := toNat_ofNat_trim s.frameW
  have hth := toNat_ofNat_trim s.frameH
  refine ⟨by simp only [htw]; omega, by simp only [hth]; omega, fun hend => ?_, fun hend => ?_,
    zero_fits, zero_fits⟩
  all_goals
    simp only [decide_eq_false_iff_not, trim_eq_zero_iff] at hend
    simp only [htw, hth, BitVec.toNat_zero, BitVec.ofNat_eq_ofNat]
    omega

theorem toNat_ofNat_of_lt_half {k : Nat} {d : Half} (h : k < d.toNat / 2) :
    (BitVec.ofNat 16 k).toNat = k ∧ k < 32767 := by
  have := Half.toNat_half_le d
  rw [BitVec.toNat_ofNat]
  omega

theorem WalkInGrid.blkNext {s u : State} (hs : WalkInGrid s) (h : bodyBlkNext s = .ok u) :
    WalkInGrid u := by
  obtain ⟨htw, hth, hcol_lt, hrow_lt, hcol_fits, hrow_fits⟩ := hs
  cases hend : s.bend with
  | true =>
    cases (bodyBlkNext_of_bend hend).symm.trans h
    exact ⟨htw, hth, hcol_lt, hrow_lt, hcol_fits, hrow_fits⟩
  | false =>
    rcases Nat.lt_or_ge (s.bposCol.toNat + 1) (s.geomTw.toNat / 2) with hcol | hcol
    · cases (bodyBlkNext_of_next_column hend hcol).symm.trans h
      obtain ⟨heq, hlt⟩ := toNat_ofNat_of_lt_half hcol
      exact ⟨htw, hth, fun _ => heq.trans_lt hcol, hrow_lt, heq.trans_lt hlt, hrow_fits⟩
    · rcases Nat.lt_or_ge (s.bposRow.toNat + 1) (s.geomTh.toNat / 2) with hrow | hrow
      · cases (bodyBlkNext_of_next_row hend hcol hrow).symm.trans h
        obtain ⟨heq, hlt⟩ := toNat_ofNat_of_lt_half hrow
        exact ⟨htw, hth, fun _ => (Nat.zero_le _).trans_lt (hcol_lt hend),
          fun _ => heq.trans_lt hrow, zero_fits, heq.trans_lt hlt⟩
      · cases (bodyBlkNext_of_last_block hend hcol hrow).symm.trans h
        exact ⟨htw, hth, nofun, nofun, hcol_fits, hrow_fits⟩

theorem WalkInGrid.bodyOf {i : Instr} {s u : State} (hs : WalkInGrid s) (h : bodyOf i s = .ok u) :
    WalkInGrid u := by
  cases i with
  | blkStart => exact walkInGrid_of_blkStart h
  | blkNext => exact hs.blkNext h
  | _ =>
    rw [bodyOf_frame h]
    exact hs.congr rfl rfl rfl rfl rfl

theorem WalkInGrid.exec {i : Instr} {s t : State} (hs : WalkInGrid s) (h : exec i s = .next t) :
    WalkInGrid t := by
  rcases exec_cases h with ⟨u, hu, -, rfl⟩ | ⟨c, -, rfl⟩
  · exact (hs.bodyOf hu).congr rfl rfl rfl rfl rfl
  · exact hs.congr rfl rfl rfl rfl rfl

/-- A write to CMD reaches the life cycle alone. -/
theorem issue_frame (v : Word32) (s : State) :
    let t := issue v s
    t = { s with
      cmd := t.cmd, done := t.done, busy := t.busy, err := t.err, pending := t.pending
      wait := t.wait, issues := t.issues } := by
  rcases issue_cases v s with ⟨-, h⟩ | ⟨-, -, h⟩ | ⟨-, -, -, h⟩ | ⟨i, -, -, -, h⟩ <;> rw [h]

theorem EventEffect.walkInGrid {s t : State} (h : EventEffect s t) (hs : WalkInGrid s) :
    WalkInGrid t := by
  cases h with
  | answer | ctrl | status => exact hs.congr rfl rfl rfl rfl rfl
  | issue v p =>
    rw [issue_frame]
    exact hs.congr rfl rfl rfl rfl rfl
  | store r v p =>
    rw [storeReg_frame]
    exact hs.congr rfl rfl rfl rfl rfl

theorem EventEffect.chromaTable_eq {s t : State} (h : EventEffect s t) :
    t.chromaTable = s.chromaTable := by
  cases h with
  | answer | ctrl | status => rfl
  | issue v p => rw [issue_frame]
  | store r v p => rw [storeReg_frame]

/-! ### Every step -/

theorem consistent_resetCore (s : State) : Consistent s.resetCore :=
  ⟨trackingAgrees_resetCore s, walkInGrid_reset.congr rfl rfl rfl rfl rfl⟩

/-- Settles O24: the reset state is its own reset core. -/
theorem resetIsConsistent : Obligations.ResetIsConsistent := consistent_resetCore State.reset

theorem WalkInGrid.busEvent {s : State} (hs : WalkInGrid s) (e : BusEvent) :
    WalkInGrid (busEvent e s) ∧ (busEvent e s).chromaTable = s.chromaTable := by
  by_cases h : NoReset e
  · have heffect := eventEffect_of_noReset h s
    exact ⟨heffect.walkInGrid hs, heffect.chromaTable_eq⟩
  · obtain ⟨p, hp⟩ := busEvent_of_reset h s
    rw [hp]
    exact ⟨(consistent_resetCore _).walk, rfl⟩

theorem Consistent.busCycle {s : State} (hs : Consistent s) :
    Consistent (busCycle s) ∧ (busCycle s).chromaTable = s.chromaTable := by
  have hcycle : WalkInGrid { s with wait := s.wait - 1, bus := s.bus.tail } :=
    hs.walk.congr rfl rfl rfl rfl rfl
  obtain ⟨hwalk, htable⟩ := hcycle.busEvent (s.bus.headD .idle)
  rw [← busCycle_eq] at hwalk htable
  exact ⟨⟨hs.tracking.busCycle, hwalk⟩, htable⟩

/-- Settles O25: a step is a bus cycle (`Consistent.busCycle`) or a completion, after which no
command is pending and the walk is where BLK_START or BLK_NEXT put it (`WalkInGrid.exec`). -/
theorem stepKeepsConsistent : Obligations.StepKeepsConsistent := by
  intro s t hs h
  rcases step_cases h with ⟨-, rfl⟩ | ⟨v, i, hc, -, hexec⟩
  · exact hs.busCycle
  · obtain ⟨hw, -⟩ := completing_some_iff.mp hc
    exact ⟨⟨trackingAgrees_of_exec hw hexec, hs.walk.exec hexec⟩,
      (exec_keeps_wait_and_chromaTable hexec).2⟩

end Sys2Proof.Machine
end

section
/-! Latency (70_reset_and_hazards.md R274, R279): while a command is pending, cycles without a reset
change only the life cycle and the host's side, and no command's pseudocode reads those. -/

namespace Sys2Proof.Machine

/-- The registers and the sample file of `s` under the life cycle, the enables and the host's side
of `c`. -/
def underLifeCycle (c s : State) : State :=
  { s with
    ieDone := c.ieDone, ieErr := c.ieErr, busy := c.busy, done := c.done, err := c.err, cmd := c.cmd
    pending := c.pending, wait := c.wait, issues := c.issues, draws := c.draws, bus := c.bus
    resp := c.resp }

theorem underLifeCycle_idem (c c' s : State) :
    underLifeCycle c (underLifeCycle c' s) = underLifeCycle c s := rfl

/-! ### No pseudocode reads the life cycle -/

/-- Under another life cycle the pseudocode writes the same. -/
def CommutesWith (c : State) (body : State → Except CoreError State) : Prop :=
  ∀ s, body (underLifeCycle c s) = (body s).map (underLifeCycle c)

theorem CommutesWith.bind {c : State} {f g : State → Except CoreError State}
    (hf : CommutesWith c f) (hg : CommutesWith c g) : CommutesWith c fun s => f s >>= g := by
  intro s
  show (f (underLifeCycle c s) >>= g) = (f s >>= g).map (underLifeCycle c)
  rw [hf s]
  cases f s with
  | error e => rfl
  | ok u => exact hg u

theorem commutesWith_bodyCcFwd (c : State) (n : Slot) : CommutesWith c (bodyCcFwd n) := by
  intro s
  by_cases hd : s.denom = 0
  · rw [bodyCcFwd, bodyCcFwd, if_pos hd, if_pos (by exact hd)]
    rfl
  · rw [bodyCcFwd, bodyCcFwd, if_neg hd, if_neg (by exact hd)]
    rfl

theorem commutesWith_bodyCcFwd4 (c : State) : CommutesWith c bodyCcFwd4 := by
  intro s
  by_cases hd : s.denom = 0
  · rw [bodyCcFwd4, bodyCcFwd4, if_pos hd, if_pos (by exact hd)]
    rfl
  · rw [bodyCcFwd4, bodyCcFwd4, if_neg hd, if_neg (by exact hd)]
    rfl

theorem commutesWith_bodyCqInv (c : State) : CommutesWith c bodyCqInv := by
  intro s
  by_cases h : 15 < s.cwPb.toNat ∨ 15 < s.cwPr.toNat
  · rw [bodyCqInv, bodyCqInv, if_pos h, if_pos (by exact h)]
    rfl
  · rw [bodyCqInv, bodyCqInv, if_neg h, if_neg (by exact h)]
    rfl

theorem commutesWith_bodyPack (c : State) : CommutesWith c bodyPack := by
  intro s
  have hfields : packFields (underLifeCycle c s) = packFields s := rfl
  rw [bodyPack, bodyPack, hfields]
  cases packFields s <;> rfl

theorem commutesWith_bodyEncBlock (c : State) : CommutesWith c bodyEncBlock :=
  (commutesWith_bodyCcFwd4 c).bind <| CommutesWith.bind (f := bodyCqFwd) (fun _ => rfl) <|
    CommutesWith.bind (f := bodyDctFwd) (fun _ => rfl) (commutesWith_bodyPack c)

theorem commutesWith_bodyDecBlock (c : State) : CommutesWith c bodyDecBlock :=
  CommutesWith.bind (f := bodyUnpack) (fun _ => rfl) <| (commutesWith_bodyCqInv c).bind <|
    CommutesWith.bind (f := bodyDctInv) (g := bodyCcInv4) (fun _ => rfl) (fun _ => rfl)

/-- A result computed from the operands alone. -/
theorem commutesWith_of_map {α : Type} {c : State} {body : State → Except CoreError State}
    (x : State → Except CoreError α) (f : State → α → Word64)
    (hx : ∀ s, x (underLifeCycle c s) = x s) (hf : ∀ s, f (underLifeCycle c s) = f s)
    (h : ∀ s, body s = (x s).map fun a => s.setBfResult (f s a)) : CommutesWith c body := by
  intro s
  rw [h, h, hx, hf]
  cases x s <;> rfl

theorem commutesWith_bodyBlkNext (c : State) : CommutesWith c bodyBlkNext := by
  intro s
  simp only [bodyBlkNext, Except.map, apply_ite (underLifeCycle c)]
  rfl

theorem commutesWith_bodyOf (c : State) (i : Instr) : CommutesWith c (bodyOf i) := by
  cases i with
  | nop | ccInv | ccInv4 | dctFwd | dctInv | cqFwd | unpack | blkStart => exact fun _ => rfl
  | ccFwd n => exact commutesWith_bodyCcFwd c n
  | ccFwd4 => exact commutesWith_bodyCcFwd4 c
  | cqInv => exact commutesWith_bodyCqInv c
  | pack => exact commutesWith_bodyPack c
  | encBlock => exact commutesWith_bodyEncBlock c
  | decBlock => exact commutesWith_bodyDecBlock c
  | bfFitsU w => exact commutesWith_of_map _ _ (fun _ => rfl) (fun _ => rfl) (bodyBfFitsU_eq_map w)
  | bfFitsS w => exact commutesWith_of_map _ _ (fun _ => rfl) (fun _ => rfl) (bodyBfFitsS_eq_map w)
  | bfGetU w l =>
    exact commutesWith_of_map _ _ (fun _ => rfl) (fun _ => rfl) (bodyBfGetU_eq_map w l)
  | bfGetS w l =>
    exact commutesWith_of_map _ _ (fun _ => rfl) (fun _ => rfl) (bodyBfGetS_eq_map w l)
  | bfSetU w l =>
    exact commutesWith_of_map (fun s => setU s.bfWord w.toNat l.toNat s.bfValue) (fun _ r => r)
      (fun _ => rfl) (fun _ => rfl) (fun _ => rfl)
  | bfSetS w l =>
    exact commutesWith_of_map (fun s => setS s.bfWord w.toNat l.toNat s.bfValue) (fun _ r => r)
      (fun _ => rfl) (fun _ => rfl) (fun _ => rfl)
  | blkNext => exact commutesWith_bodyBlkNext c

/-- A command leaves the same data under any life cycle. -/
theorem exec_underLifeCycle {i : Instr} {c s t u : State}
    (ht : exec i (underLifeCycle c s) = .next t) (hu : exec i s = .next u) : SameData u t := by
  rw [exec_eq_runCommand] at ht hu
  have hcommutes := commutesWith_bodyOf c i s
  cases hbody : bodyOf i s with
  | ok w =>
    rw [hbody] at hcommutes
    cases (runCommand_ok hbody).symm.trans hu
    cases (runCommand_ok hcommutes).symm.trans ht
    constructor <;> rfl
  | error e =>
    rw [hbody] at hcommutes
    cases (runCommand_error hbody).symm.trans hu
    cases (runCommand_error hcommutes).symm.trans ht
    constructor <;> rfl

/-! ### The cycles before the completion -/

/-- While BUSY = 1 an event that is no reset changes only the life cycle, and of the tracking
nothing. -/
theorem EventEffect.of_busy {s t : State} (h : EventEffect s t) (hb : s.busy = true) :
    t = underLifeCycle t s ∧ t.pending = s.pending ∧ t.wait = s.wait ∧ t.bus = s.bus := by
  cases h with
  | answer | ctrl | status => exact ⟨rfl, rfl, rfl, rfl⟩
  | issue v p =>
    rw [issue_eq_of_busy hb]
    exact ⟨rfl, rfl, rfl, rfl⟩
  | store r v p hidle => exact absurd (hb.symm.trans hidle) nofun

/-- Such a cycle passes one cycle of LAT and one event. -/
theorem busCycle_of_busy {s : State} (hb : s.busy = true) (hno : ∀ e ∈ s.bus, NoReset e) :
    busCycle s = underLifeCycle (busCycle s) s ∧ (busCycle s).pending = s.pending ∧
      (busCycle s).wait = s.wait - 1 ∧ (busCycle s).bus = s.bus.tail := by
  have hevent : NoReset (s.bus.headD .idle) := by
    cases hbus : s.bus with
    | nil => exact trivial
    | cons e rest => exact hno e (hbus ▸ List.mem_cons_self)
  rw [busCycle_eq]
  exact (eventEffect_of_noReset hevent _).of_busy hb

theorem run_succ {M : Host.Core} {s s' : M.State} (h : M.step s = .next s') (k : Nat) :
    M.run (k + 1) s = M.run k s' := by
  rw [Host.Core.run, h]

/-- After the cycles of LAT the completion runs the command on the same data. -/
theorem run_pending {s : State} {v : Word32} {i : Instr} {n : Nat} (hs : TrackingAgrees s)
    (hp : s.pending = some v) (hd : decode v = .ok i) (hno : ∀ e ∈ s.bus, NoReset e)
    (hw : s.wait = n) :
    ∃ c t, core.run (n + 1) s = .next t ∧ exec i (underLifeCycle c s) = .next t := by
  induction n generalizing s with
  | zero =>
    obtain ⟨t, ht⟩ := exec_next i s
    have hstep : core.step s = .next t := (stepRunsThePendingCommand s v i hp hw hd).trans ht
    exact ⟨s, t, run_succ hstep 0, ht⟩
  | succ n ih =>
    have hb : s.busy = true := by rw [hs.busy_iff, hp]; rfl
    obtain ⟨hdata, hpending, hwait, hbus⟩ := busCycle_of_busy hb hno
    have hc : s.completing = none := completing_none_of_wait (by omega)
    obtain ⟨c, t, hrun, hexec⟩ := ih hs.busCycle (hpending.trans hp)
      (fun e he => hno e (List.mem_of_mem_tail (hbus ▸ he))) (by omega)
    refine ⟨c, t, (run_succ (step_busCycle hc) _).trans hrun, ?_⟩
    rw [hdata, underLifeCycle_idem] at hexec
    exact hexec

/-- Settles O23: the run ends in the command's completion on the same data (`run_pending`), which
leaves the same data under any life cycle (`exec_underLifeCycle`). -/
theorem resultIsIndependentOfLatency : Obligations.ResultIsIndependentOfLatency := by
  intro s v i hs hp hd hno
  obtain ⟨c, t, hrun, ht⟩ := run_pending hs hp hd hno rfl
  obtain ⟨u, hu⟩ := exec_next i s
  exact ⟨t, u, hrun, hu, exec_underLifeCycle ht hu, exec_idle ht⟩

end Sys2Proof.Machine
end

section
/-! The round trip of a field (40_bitfield.md R110): the bits inserted are the low bits of the
value, and a value that fits is the extension of its low bits. -/

namespace Sys2Proof.Machine

theorem extractLsb'_insertField (word value : Word64) {w l : Nat} (hwl : w + l ≤ 64) :
    (insertField word w l value).extractLsb' l w = value.setWidth w := by
  refine BitVec.eq_of_getLsbD_eq fun i hi => ?_
  rw [BitVec.getLsbD_extractLsb', insertField_getLsbD_of_le _ _ hwl, if_pos (by omega),
    Nat.add_sub_cancel_left, BitVec.getLsbD_setWidth]

theorem ne_zero_of_fitsU {value : Word64} {w : Nat} (h : fitsU value w = true) : w ≠ 0 :=
  ((fitsU_iff value w).mp h).1

theorem ne_zero_of_fitsS {value : Word64} {w : Nat} (h : fitsS value w = true) : w ≠ 0 :=
  ((fitsS_iff value w).mp h).1

/-- A value that fits unsigned is the zero extension of its low bits. -/
theorem setWidth_setWidth_of_fitsU {value : Word64} {w : Nat} (hw : w ≤ 64)
    (h : fitsU value w = true) : (value.setWidth w).setWidth 64 = value := by
  obtain ⟨-, hfit⟩ := (fitsU_iff value w).mp h
  apply BitVec.eq_of_toNat_eq
  rw [BitVec.toNat_setWidth_of_le hw, BitVec.toNat_setWidth]
  rcases hfit with rfl | hlt
  · exact Nat.mod_eq_of_lt value.isLt
  · exact Nat.mod_eq_of_lt hlt

/-- The two readings of a word differ by a multiple of its modulus. -/
theorem pow_dvd_toInt_sub_toNat (value : Word64) :
    ((2 ^ 64 : Nat) : Int) ∣ value.toInt - value.toNat := by
  rw [BitVec.toInt_eq_toNat_cond]
  split_ifs
  · simp
  · exact ⟨-1, by push_cast; ring⟩

/-- A value that fits signed is the sign extension of its low bits. -/
theorem signExtend_setWidth_of_fitsS {value : Word64} {w : Nat} (hw : w ≤ 64)
    (h : fitsS value w = true) : (value.setWidth w).signExtend 64 = value := by
  obtain ⟨h0, hfit⟩ := (fitsS_iff value w).mp h
  apply BitVec.eq_of_toInt_eq
  rw [BitVec.toInt_signExtend_of_le hw, BitVec.toInt_setWidth]
  rcases hfit with rfl | ⟨hlo, hhi⟩
  · exact (BitVec.toInt_eq_toNat_bmod value).symm
  · have hpow : (2 ^ w : Nat) = 2 * 2 ^ (w - 1) := by
      rw [← pow_succ', Nat.sub_add_cancel (Nat.pos_of_ne_zero h0)]
    have hdvd : ((2 ^ w : Nat) : Int) ∣ value.toInt - value.toNat :=
      (Int.natCast_dvd_natCast.mpr (Nat.pow_dvd_pow 2 hw)).trans (pow_dvd_toInt_sub_toNat value)
    rw [Int.bmod_eq_iff (Nat.two_pow_pos w)]
    refine ⟨?_, ?_, hdvd⟩ <;> rw [hpow] <;> push_cast <;> omega

/-- Settles O33: extraction reads the low bits of the value inserted, and the value fits. -/
theorem extractedFieldIsTheInsertedValue : Obligations.ExtractedFieldIsTheInsertedValue := by
  intro word value w l hwl
  refine ⟨fun hfit => ⟨_, setU_ok hwl hfit, ?_⟩, fun hfit => ⟨_, setS_ok hwl hfit, ?_⟩⟩
  · rw [getU, if_neg (ne_zero_of_fitsU hfit), extractLsb'_insertField _ _ hwl,
      setWidth_setWidth_of_fitsU (by omega) hfit]
  · rw [getS, if_neg (ne_zero_of_fitsS hfit), extractLsb'_insertField _ _ hwl,
      signExtend_setWidth_of_fitsS (by omega) hfit]

end Sys2Proof.Machine
end

section
/-! The ranges of samples and channels (41_colorspace.md R126, R127): the luma weights sum to 1 and
the chroma weights to 0, and a reconstructed channel is clamped to 200. -/

namespace Sys2Proof.Machine

theorem half_toNat_pos {d : Half} (hd : d ≠ 0) : (0 : Rat) < d.toNat :=
  Nat.cast_pos.mpr (Nat.pos_of_ne_zero fun h => hd (BitVec.eq_of_toNat_eq h))

/-- A pixel of three equal channels: the weights of luma sum to 1, those of chroma to 0. -/
theorem rgbToYpbpr_gray (k d : Half) :
    rgbToYpbpr ⟨k, k, k⟩ d = ⟨(k.toNat : Rat) / (d.toNat : Rat), 0, 0⟩ := by
  simp only [rgbToYpbpr, Sample.mk.injEq]
  refine ⟨?_, ?_, ?_⟩ <;> ring

/-- A channel at most `D` is a fraction in [0, 1]. -/
theorem channel_fraction_bounds {k d : Half} (hd : d ≠ 0) (h : k.toNat ≤ d.toNat) :
    0 ≤ (k.toNat : Rat) / (d.toNat : Rat) ∧ (k.toNat : Rat) / (d.toNat : Rat) ≤ 1 :=
  ⟨by positivity, (div_le_one (half_toNat_pos hd)).mpr (Nat.cast_le.mpr h)⟩

theorem rgbToYpbpr_bounds {p : Pixel} {d : Half} (hd : d ≠ 0) (hr : p.r.toNat ≤ d.toNat)
    (hg : p.g.toNat ≤ d.toNat) (hb : p.b.toNat ≤ d.toNat) :
    (0 ≤ (rgbToYpbpr p d).y ∧ (rgbToYpbpr p d).y ≤ 1) ∧
      |(rgbToYpbpr p d).pb| ≤ 1 / 2 ∧ |(rgbToYpbpr p d).pr| ≤ 1 / 2 := by
  obtain ⟨hr0, hr1⟩ := channel_fraction_bounds hd hr
  obtain ⟨hg0, hg1⟩ := channel_fraction_bounds hd hg
  obtain ⟨hb0, hb1⟩ := channel_fraction_bounds hd hb
  simp only [rgbToYpbpr, abs_le]
  refine ⟨⟨?_, ?_⟩, ⟨?_, ?_⟩, ?_, ?_⟩ <;> linarith

/-- Settles O38: gray by `rgbToYpbpr_gray`, the ranges by those of the three fractions. -/
theorem grayHasNoChromaAndSamplesStayInRange :
    Obligations.GrayHasNoChromaAndSamplesStayInRange := by
  intro p d hd
  refine ⟨fun hrg hgb => ?_, rgbToYpbpr_bounds hd⟩
  obtain ⟨r, g, b⟩ := p
  cases hrg
  cases hgb
  exact rgbToYpbpr_gray r d

theorem outChannel_toNat_le (x : Rat) : (outChannel x).toNat ≤ 200 := by
  have h := outChannel_toNat x
  omega

theorem ypbprToRgb_channel_le (v : Sample) (c : Channel) :
    ((ypbprToRgb v).get c).toNat ≤ 200 := by
  cases c <;> exact outChannel_toNat_le _

/-- No step of DEC_BLOCK writes ERR, and its last leaves clamped channels. -/
theorem bodyDecBlock_ok (s : State) :
    ∃ u v : State, bodyDecBlock s = .ok u ∧ u.err = s.err ∧
      ∀ n, u.pix.get n = ypbprToRgb (v.sample n) := by
  obtain ⟨_, _, u3, u4, _, _, _, hcc, hdec⟩ := bodyDecBlock_steps s
  refine ⟨u4, u3, hdec, ?_, fun n => ?_⟩
  · rw [bodyDecBlock_frame hdec]
    rfl
  · cases hcc
    exact pix_get_four_inverseLanes n u3

/-- Settles O39: every pixel written is `ypbprToRgb` of some sample. -/
theorem reconstructedChannelsAreAtMost200 : Obligations.ReconstructedChannelsAreAtMost200 := by
  intro s t n c
  refine ⟨fun h => ?_, fun h => ?_, fun h => ?_⟩
  · cases h
    rw [State.complete_pix, pix_get_inverseLane, if_pos rfl]
    exact ypbprToRgb_channel_le _ c
  · cases h
    rw [State.complete_pix, pix_get_four_inverseLanes]
    exact ypbprToRgb_channel_le _ c
  · obtain ⟨u, v, hu, herr, hpix⟩ := bodyDecBlock_ok s
    cases (runCommand_ok hu).symm.trans h
    rw [State.complete_pix, hpix]
    exact ⟨ypbprToRgb_channel_le _ c, herr⟩

end Sys2Proof.Machine
end

section
/-! The decision points of `index_of_chroma` (42_chroma_quant.md R141): in a strictly increasing
table the nearest entry is found by comparing with midpoints. -/

namespace Sys2Proof.Machine

/-- The entry at index `i`. -/
def entry (t : ChromaTable) (i : Nat) : Rat := t.toList.getD i 0

theorem entry_lt {t : ChromaTable} (ht : StrictlyIncreasing t) {i j : Nat} (hij : i < j)
    (hj : j < 16) : entry t i < entry t j := by
  have hlen : t.toList.length = 16 := t.length_toList
  rw [entry, entry, List.getD_eq_getElem _ _ (by omega), List.getD_eq_getElem _ _ (by omega)]
  exact List.pairwise_iff_getElem.mp ht i j _ _ hij

theorem entry_le {t : ChromaTable} (ht : StrictlyIncreasing t) {i j : Nat} (hij : i ≤ j)
    (hj : j < 16) : entry t i ≤ entry t j := by
  rcases hij.eq_or_lt with rfl | hlt
  · exact le_rfl
  · exact (entry_lt ht hlt hj).le

/-- Of two different numbers `x` is nearer to the lower one, or as near, up to their midpoint. -/
theorem abs_sub_le_abs_sub_iff {a b x : Rat} (hab : a < b) :
    |x - a| ≤ |x - b| ↔ 2 * x ≤ a + b := by
  rw [← sq_le_sq]
  constructor <;> intro h <;> nlinarith

/-- There is only one least index of a nearest entry. -/
theorem IsNearestIndex.unique {t : ChromaTable} {x : Rat} {k k' : Nat} (h : IsNearestIndex t x k)
    (h' : IsNearestIndex t x k') : k = k' := by
  obtain ⟨hk, hleast, hfirst⟩ := h
  obtain ⟨hk', hleast', hfirst'⟩ := h'
  rcases lt_trichotomy k k' with hlt | heq | hlt
  · obtain ⟨j, hj, hnear⟩ := hfirst' k hlt
    exact absurd (hleast j hj) hnear.not_ge
  · exact heq
  · obtain ⟨j, hj, hnear⟩ := hfirst k' hlt
    exact absurd (hleast' j hj) hnear.not_ge

/-- In an increasing table the index is `k` from above the midpoints with the entries below it to
the midpoints with those above it. -/
theorem indexOfChroma_eq_of_midpoints {t : ChromaTable} (ht : StrictlyIncreasing t) {x : Rat}
    {k : Nat} (hk : k < 16) (hbelow : ∀ j < k, entry t j + entry t k < 2 * x)
    (habove : ∀ j, k < j → j < 16 → 2 * x ≤ entry t k + entry t j) : indexOfChroma t x = k := by
  have hnearer : ∀ j < k, |x - entry t k| < |x - entry t j| := fun j hj =>
    not_le.mp fun h => (hbelow j hj).not_ge ((abs_sub_le_abs_sub_iff (entry_lt ht hj hk)).mp h)
  refine (isNearestIndex_indexOfChroma t x).unique ⟨hk, fun j hj => ?_, fun i hi => ?_⟩
  · rcases lt_trichotomy j k with hlt | rfl | hlt
    · exact (hnearer j hlt).le
    · exact le_rfl
    · exact (abs_sub_le_abs_sub_iff (entry_lt ht hlt hj)).mpr (habove j hlt hj)
  · exact ⟨k, hk, hnearer i hi⟩

/-- The midpoint of neighbours goes to the lower one. -/
theorem indexOfChroma_midpoint {t : ChromaTable} (ht : StrictlyIncreasing t) {i : Nat}
    (hi : i < 15) : indexOfChroma t ((entry t i + entry t (i + 1)) / 2) = i := by
  have hnext := entry_lt ht (Nat.lt_succ_self i) (by omega)
  refine indexOfChroma_eq_of_midpoints ht (by omega) (fun j hj => ?_) (fun j hij hj => ?_)
  · have := entry_lt ht hj (by omega)
    linarith
  · have := entry_le ht hij hj
    linarith

theorem strictlyIncreasing_default : StrictlyIncreasing defaultChromaTable := by
  decide +kernel

/-- Above the last midpoint of the default table. -/
theorem indexOfChroma_default_above {x : Rat} (hx : 275 / 1000 < x) :
    indexOfChroma defaultChromaTable x = 15 := by
  have h14 : entry defaultChromaTable 14 = 20 / 100 := rfl
  have h15 : entry defaultChromaTable 15 = 35 / 100 := rfl
  refine indexOfChroma_eq_of_midpoints strictlyIncreasing_default (by decide) (fun j hj => ?_)
    (fun j hlt hj => absurd hj (by omega))
  have := entry_le strictlyIncreasing_default (Nat.le_of_lt_succ hj) (by decide)
  linarith

/-- Up to the first midpoint of the default table. -/
theorem indexOfChroma_default_below {x : Rat} (hx : x ≤ -275 / 1000) :
    indexOfChroma defaultChromaTable x = 0 := by
  have h0 : entry defaultChromaTable 0 = -35 / 100 := rfl
  have h1 : entry defaultChromaTable 1 = -20 / 100 := rfl
  refine indexOfChroma_eq_of_midpoints strictlyIncreasing_default (by decide) nofun
    (fun j hlt hj => ?_)
  have := entry_le strictlyIncreasing_default hlt hj
  linarith

/-- Settles O40: every table by `isNearestIndex_indexOfChroma`, the default table by its midpoints.
-/
theorem chromaIndexIsTheLeastNearest : Obligations.ChromaIndexIsTheLeastNearest :=
  ⟨isNearestIndex_indexOfChroma, fun _ => indexOfChroma_midpoint strictlyIncreasing_default,
   fun _ => indexOfChroma_default_above, fun _ => indexOfChroma_default_below⟩

end Sys2Proof.Machine
end

section
/-! The luma round trip (43_transform.md R167): a code is off by at most half a step of its scale,
and a slot's luma is a sum of the four coefficients. -/

namespace Sys2Proof.Machine

/-- A code of the average, inside the clamp. -/
theorem IsClampedRounding.average_error {x : Rat} {k : Int} (h : IsClampedRounding (63 * x) 0 63 k)
    (h0 : 0 ≤ x) (h1 : x ≤ 1) : |(k : Rat) / 63 - x| ≤ 1 / 126 := by
  obtain ⟨m, hm, rfl⟩ := h
  obtain ⟨hlo, hhi⟩ := hm.between (lo := 0) (hi := 63) (by push_cast; linarith)
    (by push_cast; linarith)
  obtain ⟨hbelow, habove⟩ := hm.near
  rw [min_eq_right hhi, max_eq_right hlo, abs_le]
  constructor <;> linarith

/-- A code of a detail coefficient, inside the clamp. -/
theorem IsDetailCode.error {v : Rat} {k : Int} (h : IsDetailCode v k) (hv : |v| ≤ 3 / 10) :
    |(k : Rat) / 100 - v| ≤ 1 / 200 := by
  obtain ⟨hlo, hhi⟩ := abs_le.mp hv
  rw [IsDetailCode, min_eq_right hhi, max_eq_right (by linarith)] at h
  obtain ⟨hbelow, habove⟩ := h.near
  rw [abs_le]
  constructor <;> linarith

/-- The four sums of R163 undo R162, so errors of the coefficients add up. -/
theorem slot_error_le {y : Quad Rat} {a b c d : Rat}
    (ha : |a - (y.s0 + y.s1 + y.s2 + y.s3) / 4| ≤ 1 / 126)
    (hb : |b - (y.s3 + y.s2 - y.s1 - y.s0) / 4| ≤ 1 / 200)
    (hc : |c - (y.s3 - y.s2 + y.s1 - y.s0) / 4| ≤ 1 / 200)
    (hd : |d - (y.s3 - y.s2 - y.s1 + y.s0) / 4| ≤ 1 / 200) (n : Slot) :
    |(Quad.mk (a - b - c + d) (a - b + c - d) (a + b - c - d) (a + b + c + d)).get n - y.get n| ≤
      1 / 126 + 3 / 200 := by
  simp only [abs_le] at *
  obtain ⟨ha0, ha1⟩ := ha
  obtain ⟨hb0, hb1⟩ := hb
  obtain ⟨hc0, hc1⟩ := hc
  obtain ⟨hd0, hd1⟩ := hd
  rcases Slot.cases n with rfl | rfl | rfl | rfl <;>
    simp only [Quad.get_zero, Quad.get_one, Quad.get_two, Quad.get_three] <;>
    constructor <;> linarith

theorem toInt_ofInt_of_detail {k : Int} (h : -30 ≤ k ∧ k ≤ 30) : (BitVec.ofInt 32 k).toInt = k :=
  BitVec.toInt_ofInt_eq_self (by decide) (by omega) (by omega)

theorem IsClampedRounding.toNat_ofInt {x : Rat} {k : Int} (h : IsClampedRounding x 0 63 k) :
    ((BitVec.ofInt 32 k).toNat : Int) = k := by
  obtain ⟨m, -, hk⟩ := h
  rw [BitVec.toNat_ofInt]
  omega

/-- The average of four values in [0, 1]. -/
theorem average_bounds {y : Quad Rat} (h : ∀ m, 0 ≤ y.get m ∧ y.get m ≤ 1) :
    0 ≤ (y.s0 + y.s1 + y.s2 + y.s3) / 4 ∧ (y.s0 + y.s1 + y.s2 + y.s3) / 4 ≤ 1 := by
  obtain ⟨h00, h01⟩ := h 0
  obtain ⟨h10, h11⟩ := h 1
  obtain ⟨h20, h21⟩ := h 2
  obtain ⟨h30, h31⟩ := h 3
  simp only [Quad.get_zero, Quad.get_one, Quad.get_two, Quad.get_three] at *
  constructor <;> linarith

/-- Settles O46: the registers hold the four codes as they are, whose errors `slot_error_le` adds.
-/
theorem lumaRoundTripIsBounded : Obligations.LumaRoundTripIsBounded := by
  intro s t u n hrange hb hc hd ht hu
  obtain ⟨-, ka, kb, kc, kd, hfwd, hka, hkb, hkc, hkd, -⟩ := dctFwdFollowsItsRule s
  cases hfwd.symm.trans ht
  obtain ⟨-, hinv⟩ := dctInvFollowsItsRule _ _ _ _ _ rfl rfl rfl rfl
  cases hinv.symm.trans hu
  have hacast : ((BitVec.ofInt 32 ka).toNat : Rat) = ka := by
    exact_mod_cast hka.toNat_ofInt
  obtain ⟨havg0, havg1⟩ := average_bounds hrange
  simp only [hacast, toInt_ofInt_of_detail hkb.bounds, toInt_ofInt_of_detail hkc.bounds,
    toInt_ofInt_of_detail hkd.bounds]
  exact slot_error_le (hka.average_error havg0 havg1) (hkb.error hb) (hkc.error hc) (hkd.error hd) n

end Sys2Proof.Machine
end

section
/-! The round trip of a codeword (44_codeword.md R183): its word is the sum of its fields, and the
fields of a word are the digits of that sum. -/

namespace Sys2Proof.Machine

/-- A register holds a signed field as it is exactly when it is in the field's range and has the
field's low bits. -/
theorem toInt_eq_six_bits_iff (x : Word32) (f : BitVec 6) :
    x.toInt = f.toInt ↔ (-32 ≤ x.toInt ∧ x.toInt ≤ 31) ∧ x.toNat % 64 = f.toNat := by
  have hx := x.isLt
  have hf := f.isLt
  rw [BitVec.toInt_eq_toNat_cond, BitVec.toInt_eq_toNat_cond]
  split_ifs <;> omega

/-- What PACK leaves of codeword registers in their ranges. -/
theorem pack_word {s t : State} (hs : CodewordInRange s) (h : exec .pack s = .next t) :
    t.word.toNat = s.cwA.toNat * 2 ^ 26 + s.cwB.toNat % 64 * 2 ^ 20 + s.cwC.toNat % 64 * 2 ^ 14 +
      s.cwD.toNat % 64 * 2 ^ 8 + s.cwPb.toNat * 2 ^ 4 + s.cwPr.toNat ∧ t.err = s.err := by
  obtain ⟨-, -, hpack⟩ := packFollowsItsRule s
  obtain ⟨w, hexec, hw⟩ := hpack hs
  cases hexec.symm.trans h
  exact ⟨hw, rfl⟩

/-- The codeword registers that UNPACK leaves of a word. -/
structure HoldsFieldsOf (word : Word32) (t : State) : Prop where
  a : t.cwA.toNat = word.toNat / 2 ^ 26
  b : t.cwB.toInt = (word.extractLsb' 20 6).toInt
  c : t.cwC.toInt = (word.extractLsb' 14 6).toInt
  d : t.cwD.toInt = (word.extractLsb' 8 6).toInt
  pb : t.cwPb.toNat = word.toNat / 16 % 16
  pr : t.cwPr.toNat = word.toNat % 16

theorem unpack_holdsFieldsOf {s t : State} (h : exec .unpack s = .next t) :
    HoldsFieldsOf s.word t ∧ t.err = s.err := by
  obtain ⟨-, a, b, c, d, pb, pr, hexec, ha, hb, hc, hd, hpb, hpr⟩ := unpackFollowsItsRule s
  cases hexec.symm.trans h
  exact ⟨⟨ha, hb, hc, hd, hpb, hpr⟩, rfl⟩

theorem extract_six_toNat (word : Word32) (l : Nat) :
    (word.extractLsb' l 6).toNat = word.toNat / 2 ^ l % 64 := by
  rw [BitVec.extractLsb'_toNat, Nat.shiftRight_eq_div_pow]

/-- PACK then UNPACK. -/
theorem unpack_of_pack {s t u : State} (hs : CodewordInRange s) (ht : exec .pack s = .next t)
    (hu : exec .unpack t = .next u) :
    u.cwA = s.cwA ∧ u.cwB = s.cwB ∧ u.cwC = s.cwC ∧ u.cwD = s.cwD ∧ u.cwPb = s.cwPb ∧
      u.cwPr = s.cwPr := by
  obtain ⟨hword, -⟩ := pack_word hs ht
  obtain ⟨⟨ha, hb, hc, hd, hpb, hpr⟩, -⟩ := unpack_holdsFieldsOf hu
  obtain ⟨hsa, hsb, hsc, hsd, hspb, hspr⟩ := hs
  have hdigit {x : Word32} {l : Nat} (hx : -32 ≤ x.toInt ∧ x.toInt ≤ 31)
      (hlow : x.toNat % 64 = t.word.toNat / 2 ^ l % 64) :
      (t.word.extractLsb' l 6).toInt = x.toInt :=
    ((toInt_eq_six_bits_iff _ _).mpr ⟨hx, hlow.trans (extract_six_toNat _ _).symm⟩).symm
  exact ⟨BitVec.eq_of_toNat_eq (by omega),
    BitVec.eq_of_toInt_eq (hb.trans (hdigit hsb (by omega))),
    BitVec.eq_of_toInt_eq (hc.trans (hdigit hsc (by omega))),
    BitVec.eq_of_toInt_eq (hd.trans (hdigit hsd (by omega))),
    BitVec.eq_of_toNat_eq (by omega), BitVec.eq_of_toNat_eq (by omega)⟩

/-- UNPACK then PACK. -/
theorem pack_of_unpack {s t u : State} (ht : exec .unpack s = .next t)
    (hu : exec .pack t = .next u) : u.word = s.word ∧ u.err = s.err := by
  obtain ⟨⟨ha, hb, hc, hd, hpb, hpr⟩, herr⟩ := unpack_holdsFieldsOf ht
  obtain ⟨hbrange, hb⟩ := (toInt_eq_six_bits_iff _ _).mp hb
  obtain ⟨hcrange, hc⟩ := (toInt_eq_six_bits_iff _ _).mp hc
  obtain ⟨hdrange, hd⟩ := (toInt_eq_six_bits_iff _ _).mp hd
  rw [extract_six_toNat] at hb hc hd
  have hlt := s.word.isLt
  have hrange : CodewordInRange t :=
    ⟨by omega, hbrange, hcrange, hdrange, by omega, by omega⟩
  obtain ⟨hword, herr'⟩ := pack_word hrange hu
  exact ⟨BitVec.eq_of_toNat_eq (by omega), herr'.trans herr⟩

/-- Settles O49: `unpack_of_pack` and `pack_of_unpack`. -/
theorem packAndUnpackAreInverse : Obligations.PackAndUnpackAreInverse :=
  fun _ _ _ => ⟨unpack_of_pack, pack_of_unpack⟩

end Sys2Proof.Machine
end

section
/-! The block walk (45_block.md R204, R205): BLK_START stands at block 0 of a grid that is not
empty, and BLK_NEXT goes from block `k` to block `k + 1`, or ends the walk after the last. -/

namespace Sys2Proof.Machine

theorem afterCommand_of_body {i : Instr} {s u : State} (h : bodyOf i s = .ok u) :
    afterCommand i s = u.complete := by
  rw [afterCommand, exec_eq_runCommand, runCommand_ok h]

/-- In the grid that `g` started, `t` is at block `k`. -/
structure AtBlock (g t : State) (k : Nat) : Prop where
  tw : t.geomTw = g.geomTw
  th : t.geomTh = g.geomTh
  bend : t.bend = false
  col_lt : t.bposCol.toNat < g.geomTw.toNat / 2
  row_lt : t.bposRow.toNat < g.geomTh.toNat / 2
  index : t.bposRow.toNat * (g.geomTw.toNat / 2) + t.bposCol.toNat = k

/-- The walk in the grid that `g` started has ended, at the last block. -/
structure WalkEnded (g t : State) : Prop where
  bend : t.bend = true
  index : t.cwidx = g.nblk - 1

theorem AtBlock.cwidx_eq {g t : State} {k : Nat} (h : AtBlock g t k) : t.cwidx = k := by
  rw [State.cwidx, h.tw]
  exact h.index

/-- A row and a column of the grid give an index below NBLK. -/
theorem AtBlock.lt_nblk {g t : State} {k : Nat} (h : AtBlock g t k) : k < g.nblk := by
  obtain ⟨-, -, -, hcol, hrow, rfl⟩ := h
  calc t.bposRow.toNat * (g.geomTw.toNat / 2) + t.bposCol.toNat
      < (t.bposRow.toNat + 1) * (g.geomTw.toNat / 2) := by rw [Nat.succ_mul]; omega
    _ ≤ (g.geomTh.toNat / 2) * (g.geomTw.toNat / 2) := Nat.mul_le_mul_right _ hrow
    _ = g.nblk := Nat.mul_comm _ _

/-- From block `k` BLK_NEXT goes to block `k + 1`, or `k` was the last. -/
theorem AtBlock.next {g t : State} {k : Nat} (h : AtBlock g t k) :
    AtBlock g (afterCommand .blkNext t) (k + 1) ∨
      (WalkEnded g (afterCommand .blkNext t) ∧ k + 1 = g.nblk) := by
  have hindex := h.cwidx_eq
  obtain ⟨htw, hth, hend, hcol, hrow, hk⟩ := h
  rcases Nat.lt_or_ge (t.bposCol.toNat + 1) (t.geomTw.toNat / 2) with hnext | hlast
  · have hstep := afterCommand_of_body (i := .blkNext) (bodyBlkNext_of_next_column hend hnext)
    have hcol' := (toNat_ofNat_of_lt_half hnext).1
    rw [htw] at hnext
    rw [hstep]
    exact .inl ⟨htw, hth, hend, hcol'.trans_lt hnext, hrow, by
      simp only [State.complete_bposRow, State.complete_bposCol, hcol']
      omega⟩
  · have hcol_last : t.bposCol.toNat + 1 = g.geomTw.toNat / 2 := by
      rw [htw] at hlast
      omega
    rcases Nat.lt_or_ge (t.bposRow.toNat + 1) (t.geomTh.toNat / 2) with hnext | hlast_row
    · have hstep :=
        afterCommand_of_body (i := .blkNext) (bodyBlkNext_of_next_row hend hlast hnext)
      have hrow' := (toNat_ofNat_of_lt_half hnext).1
      rw [hth] at hnext
      rw [hstep]
      refine .inl ⟨htw, hth, hend, (Nat.zero_le _).trans_lt hcol, hrow'.trans_lt hnext, ?_⟩
      simp only [State.complete_bposRow, State.complete_bposCol, hrow', Nat.succ_mul]
      show _ + 0 = _
      omega
    · have hstep :=
        afterCommand_of_body (i := .blkNext) (bodyBlkNext_of_last_block hend hlast hlast_row)
      have hrow_last : t.bposRow.toNat + 1 = g.geomTh.toNat / 2 := by
        rw [hth] at hlast_row
        omega
      have hnblk : k + 1 = g.nblk := by
        rw [State.nblk, ← hrow_last, Nat.mul_comm, Nat.succ_mul]
        omega
      rw [hstep]
      exact .inr ⟨⟨rfl, hindex.trans (by omega)⟩, hnblk⟩

theorem WalkEnded.next {g t : State} (h : WalkEnded g t) :
    WalkEnded g (afterCommand .blkNext t) := by
  obtain ⟨hend, hindex⟩ := h
  rw [afterCommand_of_body (i := .blkNext) (bodyBlkNext_of_bend hend)]
  exact ⟨hend, hindex⟩

/-- Where the walk is after `k` BLK_NEXT commands. -/
def WalkAfter (g t : State) (k : Nat) : Prop :=
  AtBlock g t k ∨ (WalkEnded g t ∧ g.nblk ≤ k)

theorem WalkAfter.next {g t : State} {k : Nat} (h : WalkAfter g t k) :
    WalkAfter g (afterCommand .blkNext t) (k + 1) := by
  rcases h with hat | ⟨hended, hk⟩
  · exact hat.next.imp id fun ⟨hended, hk⟩ => ⟨hended, hk.ge⟩
  · exact .inr ⟨hended.next, Nat.le_succ_of_le hk⟩

/-- BLK_START stands at block 0, unless the grid is empty. -/
theorem walkAfter_blkStart {s g : State} (h : exec .blkStart s = .next g) : WalkAfter g g 0 := by
  have hwalk : WalkInGrid g := by
    cases h
    exact (walkInGrid_of_blkStart (s := s) rfl).congr rfl rfl rfl rfl rfl
  obtain ⟨-, tw, th, e, hexec, htw, hth, hempty⟩ := blkStartFollowsItsRule s
  cases hexec.symm.trans h
  cases he : e with
  | false => exact .inl ⟨rfl, rfl, rfl, hwalk.col_lt he, hwalk.row_lt he, Nat.zero_mul _⟩
  | true =>
    have hnblk : (tw.toNat / 2) * (th.toNat / 2) = 0 := by
      rw [Nat.mul_eq_zero]
      have := hempty.mp he
      omega
    refine .inr ⟨⟨rfl, ?_⟩, hnblk.le⟩
    show 0 * (tw.toNat / 2) + 0 = (tw.toNat / 2) * (th.toNat / 2) - 1
    rw [hnblk, Nat.zero_mul]

theorem walkAfter_iterate {g : State} (h : WalkAfter g g 0) (k : Nat) :
    WalkAfter g ((afterCommand .blkNext)^[k] g) k := by
  induction k with
  | zero => exact h
  | succ k ih =>
    rw [Function.iterate_succ_apply']
    exact ih.next

/-- Settles O53: the walk is at block `k` or has ended (`walkAfter_iterate`), and only below NBLK is
there a block `k`. -/
theorem blockWalkVisitsEveryBlockInOrder : Obligations.BlockWalkVisitsEveryBlockInOrder := by
  intro s t k h
  rcases walkAfter_iterate (walkAfter_blkStart h) k with hat | ⟨⟨hend, hindex⟩, hk⟩
  · exact ⟨fun _ => ⟨hat.bend, hat.cwidx_eq⟩, fun hk => absurd hat.lt_nblk hk.not_gt⟩
  · exact ⟨fun hlt => absurd hk hlt.not_ge, fun _ => ⟨hend, hindex⟩⟩

end Sys2Proof.Machine
end

section
/-! Block independence (45_block.md R209): the four steps of ENC_BLOCK and of DEC_BLOCK read the
inputs of the block and what the steps before them wrote, and nothing else of the core. -/

namespace Sys2Proof.Machine

/-- Two cores with the same sample file. -/
structure SameSamples (s s' : State) : Prop where
  y : s.y = s'.y
  pb : s.pb = s'.pb
  pr : s.pr = s'.pr

/-- Two cores with the same codeword registers. -/
structure SameCodeword (s s' : State) : Prop where
  a : s.cwA = s'.cwA
  b : s.cwB = s'.cwB
  c : s.cwC = s'.cwC
  d : s.cwD = s'.cwD
  pb : s.cwPb = s'.cwPb
  pr : s.cwPr = s'.cwPr

theorem sameSamples_of_sample_eq {s s' : State} (h : ∀ n, s.sample n = s'.sample n) :
    SameSamples s s' where
  y := Quad.ext_get fun n => congrArg Sample.y (h n)
  pb := Quad.ext_get fun n => congrArg Sample.pb (h n)
  pr := Quad.ext_get fun n => congrArg Sample.pr (h n)

theorem SameSamples.sample_eq {s s' : State} (h : SameSamples s s') (n : Slot) :
    s.sample n = s'.sample n := by
  rw [State.sample, h.y, h.pb, h.pr, State.sample]

/-! ### ENC_BLOCK -/

theorem bodyCcFwd4_congr {s s' u u' : State} (hpix : s.pix = s'.pix) (hdenom : s.denom = s'.denom)
    (h : bodyCcFwd4 s = .ok u) (h' : bodyCcFwd4 s' = .ok u') : SameSamples u u' := by
  unfold bodyCcFwd4 at h h'
  split_ifs at h h'
  cases h
  cases h'
  refine sameSamples_of_sample_eq fun n => ?_
  rw [sample_four_forwardLanes, sample_four_forwardLanes, hpix, hdenom]

/-- CQ_FWD and DCT_FWD read the samples and the chroma table. -/
theorem bodyCqFwd_bodyDctFwd_congr {s s' u u' v v' : State}
    (htable : s.chromaTable = s'.chromaTable) (hsamples : SameSamples s s')
    (hcq : bodyCqFwd s = .ok u) (hcq' : bodyCqFwd s' = .ok u') (hdct : bodyDctFwd u = .ok v)
    (hdct' : bodyDctFwd u' = .ok v') :
    SameCodeword v v' ∧ SameSamples v v' := by
  obtain ⟨hy, hpb, hpr⟩ := hsamples
  cases hcq
  cases hcq'
  cases hdct
  cases hdct'
  refine ⟨⟨?_, ?_, ?_, ?_, ?_, ?_⟩, hy, hpb, hpr⟩
  · exact congrArg (fun y => toReg (lumaForward y).a) hy
  · exact congrArg (fun y => toReg (lumaForward y).b) hy
  · exact congrArg (fun y => toReg (lumaForward y).c) hy
  · exact congrArg (fun y => toReg (lumaForward y).d) hy
  · exact congrArg₂ quantizeChroma htable hpb
  · exact congrArg₂ quantizeChroma htable hpr

theorem packedWord_congr {s s' : State} (h : SameCodeword s s') : packedWord s = packedWord s' := by
  obtain ⟨ha, hb, hc, hd, hpb, hpr⟩ := h
  rw [packedWord, packedWord, ha, hb, hc, hd, hpb, hpr]

/-- PACK of in-range codeword registers writes WORD alone. -/
theorem bodyPack_congr {s s' u u' : State} (hs : CodewordInRange s) (hs' : CodewordInRange s')
    (hcw : SameCodeword s s') (h : bodyPack s = .ok u) (h' : bodyPack s' = .ok u') :
    u.word = u'.word ∧ SameCodeword u u' := by
  cases (bodyPack_of_inRange hs).symm.trans h
  cases (bodyPack_of_inRange hs').symm.trans h'
  obtain ⟨ha, hb, hc, hd, hpb, hpr⟩ := hcw
  exact ⟨congrArg low32 (packedWord_congr ⟨ha, hb, hc, hd, hpb, hpr⟩), ha, hb, hc, hd, hpb, hpr⟩

theorem sameSamples_of_bodyPack {s s' u u' : State} (hsamples : SameSamples s s')
    (h : bodyPack s = .ok u) (h' : bodyPack s' = .ok u') : SameSamples u u' := by
  obtain ⟨hy, hpb, hpr⟩ := hsamples
  rw [bodyPack_frame h, bodyPack_frame h']
  exact ⟨hy, hpb, hpr⟩

theorem SamplesOnly.chromaTable_eq {s t : State} (h : SamplesOnly s t) :
    t.chromaTable = s.chromaTable := by
  rw [h]

/-- What ENC_BLOCK leaves, of two cores with the same block. -/
theorem bodyEncBlock_congr {s s' u u' : State} (htable : s.chromaTable = s'.chromaTable)
    (hpix : s.pix = s'.pix) (hdenom : s.denom = s'.denom) (h : bodyEncBlock s = .ok u)
    (h' : bodyEncBlock s' = .ok u') : u.word = u'.word ∧ SameCodeword u u' ∧ SameSamples u u' := by
  obtain ⟨u1, u2, u3, u4, hcc, hcq, hdct, hpack, henc, -⟩ :=
    bodyEncBlock_steps (denom_ne_zero_of_bodyEncBlock h)
  obtain ⟨u1', u2', u3', u4', hcc', hcq', hdct', hpack', henc', -⟩ :=
    bodyEncBlock_steps (denom_ne_zero_of_bodyEncBlock h')
  cases henc.symm.trans h
  cases henc'.symm.trans h'
  have htable1 : u1.chromaTable = u1'.chromaTable := by
    rw [(bodyCcFwd4_frame hcc).chromaTable_eq, htable, (bodyCcFwd4_frame hcc').chromaTable_eq]
  obtain ⟨hcw, hsamples⟩ := bodyCqFwd_bodyDctFwd_congr htable1
    (bodyCcFwd4_congr hpix hdenom hcc hcc') hcq hcq' hdct hdct'
  obtain ⟨hword, hcw'⟩ := bodyPack_congr (codewordInRange_of_cqFwd_dctFwd hcq hdct)
    (codewordInRange_of_cqFwd_dctFwd hcq' hdct') hcw hpack hpack'
  exact ⟨hword, hcw', sameSamples_of_bodyPack hsamples hpack hpack'⟩

/-! ### DEC_BLOCK -/

theorem bodyUnpack_congr {s s' u u' : State} (hword : s.word = s'.word)
    (h : bodyUnpack s = .ok u) (h' : bodyUnpack s' = .ok u') : SameCodeword u u' := by
  cases h
  cases h'
  constructor <;> simp only [hword]

/-- CQ_INV and DCT_INV read the codeword registers and the chroma table. -/
theorem bodyCqInv_bodyDctInv_congr {s s' u u' v v' : State}
    (htable : s.chromaTable = s'.chromaTable) (hcw : SameCodeword s s')
    (hcq : bodyCqInv s = .ok u) (hcq' : bodyCqInv s' = .ok u') (hdct : bodyDctInv u = .ok v)
    (hdct' : bodyDctInv u' = .ok v') : SameSamples v v' := by
  obtain ⟨ha, hb, hc, hd, hpb, hpr⟩ := hcw
  unfold bodyCqInv at hcq hcq'
  split_ifs at hcq hcq'
  cases hcq
  cases hcq'
  cases hdct
  cases hdct'
  constructor <;> simp only [State.lumaCode, ha, hb, hc, hd, hpb, hpr, htable]

theorem bodyCcInv4_congr {s s' u u' : State} (hsamples : SameSamples s s')
    (h : bodyCcInv4 s = .ok u) (h' : bodyCcInv4 s' = .ok u') :
    u.pix = u'.pix ∧ SameSamples u u' := by
  cases h
  cases h'
  refine ⟨Quad.ext_get fun n => ?_, sameSamples_of_sample_eq fun n => ?_⟩
  · rw [pix_get_four_inverseLanes, pix_get_four_inverseLanes, hsamples.sample_eq]
  · simp only [sample_inverseLane, hsamples.sample_eq]

/-- What DEC_BLOCK leaves, of two cores with the same word. -/
theorem bodyDecBlock_congr {s s' u u' : State} (htable : s.chromaTable = s'.chromaTable)
    (hword : s.word = s'.word) (h : bodyDecBlock s = .ok u) (h' : bodyDecBlock s' = .ok u') :
    u.pix = u'.pix ∧ SameSamples u u' := by
  obtain ⟨u1, u2, u3, u4, hunpack, hcq, hdct, hcc, hdec⟩ := bodyDecBlock_steps s
  obtain ⟨u1', u2', u3', u4', hunpack', hcq', hdct', hcc', hdec'⟩ := bodyDecBlock_steps s'
  cases hdec.symm.trans h
  cases hdec'.symm.trans h'
  have hcw := bodyUnpack_congr hword hunpack hunpack'
  have htable1 : u1.chromaTable = u1'.chromaTable := by
    cases hunpack
    cases hunpack'
    exact htable
  exact bodyCcInv4_congr (bodyCqInv_bodyDctInv_congr htable1 hcw hcq hcq' hdct hdct') hcc hcc'

/-- Settles O57: neither command raises, and what each leaves is said by `bodyEncBlock_congr` and
`bodyDecBlock_congr`. -/
theorem blocksAreIndependent : Obligations.BlocksAreIndependent := by
  intro s s' t t' htable
  refine ⟨fun hd hdenom hpix h h' => ?_, fun hword h h' => ?_⟩
  · obtain ⟨_, _, _, u, _, _, _, _, henc, _⟩ := bodyEncBlock_steps hd
    obtain ⟨_, _, _, u', _, _, _, _, henc', _⟩ := bodyEncBlock_steps (hdenom ▸ hd)
    cases (runCommand_ok henc).symm.trans h
    cases (runCommand_ok henc').symm.trans h'
    obtain ⟨hword, ⟨ha, hb, hc, hd, hpb, hpr⟩, hy, hspb, hspr⟩ :=
      bodyEncBlock_congr htable hpix hdenom henc henc'
    exact ⟨hword, ha, hb, hc, hd, hpb, hpr, hy, hspb, hspr⟩
  · obtain ⟨_, _, _, u, _, _, _, _, hdec⟩ := bodyDecBlock_steps s
    obtain ⟨_, _, _, u', _, _, _, _, hdec'⟩ := bodyDecBlock_steps s'
    cases (runCommand_ok hdec).symm.trans h
    cases (runCommand_ok hdec').symm.trans h'
    obtain ⟨hpix, hy, hpb, hpr⟩ := bodyDecBlock_congr htable hword hdec hdec'
    exact ⟨hpix, hy, hpb, hpr⟩

end Sys2Proof.Machine
end

section
/-! The frame (45_block.md R200 to R203, R210; 20_memory.md R71): the blocks in row-major order, the
word of each, and the pixels each covers. -/

namespace Sys2Proof.Machine

/-- Block `k` of a frame, in row-major order. -/
theorem frameBlocks_eq (tw th : Nat) :
    frameBlocks tw th =
      (List.range ((th / 2) * (tw / 2))).map fun k => (k % (tw / 2), k / (tw / 2)) := by
  unfold frameBlocks
  induction th / 2 with
  | zero => simp
  | succ h ih =>
    rw [List.range_succ, List.flatMap_append, ih, Nat.succ_mul, List.range_add, List.map_append,
      List.flatMap_singleton, List.map_map]
    congr 1
    refine List.map_congr_left fun i hi => ?_
    have hi : i < tw / 2 := List.mem_range.mp hi
    rw [Function.comp_apply, Nat.mul_comm, Nat.mul_add_mod, Nat.mod_eq_of_lt hi,
      Nat.mul_add_div (by omega), Nat.div_eq_of_lt hi, Nat.add_zero]

theorem frameBlocks_length (tw th : Nat) : (frameBlocks tw th).length = (tw / 2) * (th / 2) := by
  rw [frameBlocks_eq, List.length_map, List.length_range, Nat.mul_comm]

/-- The position of R71 is that of the block. -/
theorem frameBlocks_getElem? {tw th i j : Nat} (hi : i < tw / 2) (hj : j < th / 2) :
    (frameBlocks tw th)[codewordPosition tw i j]? = some (i, j) := by
  have hlt : codewordPosition tw i j < (th / 2) * (tw / 2) := by
    calc j * (tw / 2) + i < (j + 1) * (tw / 2) := by rw [Nat.succ_mul]; omega
      _ ≤ (th / 2) * (tw / 2) := Nat.mul_le_mul_right _ hj
  rw [frameBlocks_eq, List.getElem?_map, List.getElem?_range hlt, Option.map_some, codewordPosition,
    Nat.mul_comm, Nat.mul_add_mod, Nat.mod_eq_of_lt hi, Nat.mul_add_div (by omega),
    Nat.div_eq_of_lt hi, Nat.add_zero]

/-! ### The words of a frame -/

theorem exec_afterCommand (i : Instr) (s : State) : exec i s = .next (afterCommand i s) := by
  obtain ⟨t, ht⟩ := exec_next i s
  rw [afterCommand, ht]

theorem encodeBlock_chromaTable (d : Half) (px : Quad Pixel) (s : State) :
    (encodeBlock d px s).chromaTable = s.chromaTable :=
  (exec_keeps_wait_and_chromaTable (exec_afterCommand _ _)).2

/-- The word of a block does not depend on what the core held before. -/
theorem encodeBlock_word_congr {d : Half} (hd : d ≠ 0) (px : Quad Pixel) {s s' : State}
    (htable : s.chromaTable = s'.chromaTable) :
    (encodeBlock d px s).word = (encodeBlock d px s').word := by
  obtain ⟨henc, -⟩ := blocksAreIndependent { s with pix := px, denom := d }
    { s' with pix := px, denom := d } _ _ htable
  exact (henc hd rfl rfl (exec_afterCommand _ _) (exec_afterCommand _ _)).1

theorem encodeBlocks_eq_map (p : PixelGrid) {d : Half} (hd : d ≠ 0) {s s' : State}
    (htable : s.chromaTable = s'.chromaTable) (blocks : List (Nat × Nat)) :
    encodeBlocks p d blocks s =
      blocks.map fun q => (encodeBlock d (blockPixels p q.1 q.2) s').word := by
  induction blocks generalizing s with
  | nil => rfl
  | cons q rest ih =>
    rw [encodeBlocks, List.map_cons, encodeBlock_word_congr hd _ htable,
      ih ((encodeBlock_chromaTable _ _ _).trans htable)]

theorem trim_half (n : Nat) : trim n / 2 = n / 2 := by
  rw [trim_eq]
  omega

/-- Settles O58: the words are those of the frame's blocks (`encodeBlocks_eq_map`), in the order of
their positions (`frameBlocks_getElem?`). -/
theorem compressedFrameIsItsBlocksWords : Obligations.CompressedFrameIsItsBlocksWords := by
  intro p w h d s s' i j hd htable
  simp only [compressFrame, encodeBlocks_eq_map p hd htable]
  refine ⟨?_, fun hi hj => ?_⟩
  · rw [List.length_map, frameBlocks_length, trim_half, trim_half]
  · rw [List.getElem?_map, frameBlocks_getElem? (by rwa [trim_half]) (by rwa [trim_half]),
      Option.map_some]

/-! ### The pixels of a frame -/

theorem mem_frameBlocks_iff {tw th : Nat} {q : Nat × Nat} :
    q ∈ frameBlocks tw th ↔ q.1 < tw / 2 ∧ q.2 < th / 2 := by
  obtain ⟨i, j⟩ := q
  simp [frameBlocks, and_comm]

/-- A column is its block's column and the parity of its slot. -/
theorem slotColumn_eq_iff {i x : Nat} {n : Slot} :
    slotColumn i n = x ↔ i = x / 2 ∧ n.toNat % 2 = x % 2 := by
  unfold slotColumn
  omega

/-- A row is its block's row and the half of its slot. -/
theorem slotRow_eq_iff {j y : Nat} {n : Slot} :
    slotRow j n = y ↔ j = y / 2 ∧ n.toNat / 2 = y % 2 := by
  have := n.isLt
  unfold slotRow
  omega

/-- Settles O59: column and row name the block and the two bits of the slot. -/
theorem everyOutputPixelHasOneBlock : Obligations.EveryOutputPixelHasOneBlock := by
  intro tw th x y htw hth hx hy
  obtain ⟨m, hm⟩ : ∃ m : Slot, m.toNat = 2 * (y % 2) + x % 2 :=
    ⟨BitVec.ofNat 2 (2 * (y % 2) + x % 2), by rw [BitVec.toNat_ofNat]; omega⟩
  refine ⟨((x / 2, y / 2), m), ?_, ?_⟩
  · simp only [mem_frameBlocks_iff, slotColumn_eq_iff, slotRow_eq_iff, hm, true_and]
    omega
  · rintro ⟨⟨i, j⟩, n⟩ ⟨-, hcol, hrow⟩
    simp only [slotColumn_eq_iff, slotRow_eq_iff] at hcol hrow
    obtain ⟨hi, hn0⟩ := hcol
    obtain ⟨hj, hn1⟩ := hrow
    have hn : n = m := BitVec.eq_of_toNat_eq (by omega)
    rw [hi, hj, hn]

end Sys2Proof.Machine
end
